-- ==== Sys2Proof/Word.lean ====
section
/-! DEFINITION. The two word types of the machine: R10 (notation), R20 to R23 (8-bit registers), R29 and R50
(16-bit addresses). All arithmetic on them wraps, as R10 says. -/

namespace Sys2Proof

/-- An 8-bit value: a register, a memory cell, an opcode or an operand byte (R20 to R23, R50, R72). -/
abbrev Byte := BitVec 8

/-- A 16-bit address or the program counter (R29, R50). -/
abbrev Addr := BitVec 16

end Sys2Proof
end

