-- ==== Sys2Proof/Syntax.lean ====
section
/-! DEFINITION. The syntax: addressing modes, operands, mnemonics, the instruction descriptor, and `Instr`, one
constructor per row of `spec/opcode_table.json` (R70 to R75, R81). Every field of every constructor holds at every
value, so a term of `Instr` is an instruction; what can disagree is a row and an operand, see `WellFormed.lean`. -/

namespace Sys2Proof

/-- The thirteen addressing modes of R71, by the short names of the table's `format` column. -/
inductive Mode
  | imp | acc | imm | zp | zpx | zpy | abs | abx | aby | izx | izy | ind | rel
  deriving DecidableEq, Repr

/-- An operand as R71 to R73 give it: the addressing mode with the operand bytes it carries. A two-byte operand is
held assembled, `hi8:lo8` (R73). -/
inductive Operand
  | imp
  | acc
  | imm (d : Byte)
  | zp (d : Byte)
  | zpx (d : Byte)
  | zpy (d : Byte)
  | abs (w : Addr)
  | abx (w : Addr)
  | aby (w : Addr)
  | izx (d : Byte)
  | izy (d : Byte)
  | ind (w : Addr)
  | rel (d : Byte)
  deriving DecidableEq, Repr

/-- The operation kinds: the 77 mnemonics of the opcode table, by this spec's names (R75, R81). -/
inductive Mnemonic
  | BRK | ORA | JAM | SLO | NOP | ASL | PHP | ANC | BPL | CLC | JSR | AND | RLA
  | BIT | ROL | PLP | BMI | SEC | RTI | EOR | SRE | LSR | PHA | ALR | JMP | BVC
  | CLI | RTS | ADC | RRA | ROR | PLA | ARR | BVS | SEI | STA | SAX | STY | STX
  | DEY | TXA | ANE | BCC | SHA | TYA | TXS | TAS | SHY | SHX | LDY | LDA | LDX
  | LAX | TAY | TAX | LXA | BCS | CLV | TSX | LAS | CPY | CMP | DCP | DEC | INY
  | DEX | SBX | BNE | CLD | CPX | SBC | ISC | INC | INX | USBC | BEQ | SED
  deriving DecidableEq, Repr

/-- The instruction descriptor of R74: operation kind, addressing mode, base cycle count, page-cross penalty flag,
and the `documented` and unstable-store flags. -/
structure Row where
  /-- The operation kind (R74, R75). -/
  mnemonic : Mnemonic
  /-- The addressing mode (R71, R74). -/
  mode : Mode
  /-- The base cycle count (R74, R75). -/
  cycles : Nat
  /-- Is the page-cross penalty applicable (R86, R114)? -/
  pageCrossPenalty : Bool
  /-- Is it one of the 151 official opcodes (R74, R76)? -/
  documented : Bool
  /-- Is it one of the five unstable stores (R83)? -/
  unstableStore : Bool
  deriving DecidableEq, Repr

/-- An instruction: one constructor per opcode byte (R74, R75), with its operand byte `d` (`imm8`, `zp8` or `rel8`)
or its assembled operand word `w` (`hi8:lo8`) where it has one. Where the table has several opcodes of one mnemonic and
mode, the constructor's name ends in the opcode. Those with an operand stand first, in opcode order, then those without. -/
inductive Instr
  | oraIzx (d : Byte)
  | sloIzx (d : Byte)
  | nopZp04 (d : Byte)
  | oraZp (d : Byte)
  | aslZp (d : Byte)
  | sloZp (d : Byte)
  | oraImm (d : Byte)
  | ancImm0B (d : Byte)
  | nopAbs (w : Addr)
  | oraAbs (w : Addr)
  | aslAbs (w : Addr)
  | sloAbs (w : Addr)
  | bpl (d : Byte)
  | oraIzy (d : Byte)
  | sloIzy (d : Byte)
  | nopZpx14 (d : Byte)
  | oraZpx (d : Byte)
  | aslZpx (d : Byte)
  | sloZpx (d : Byte)
  | oraAby (w : Addr)
  | sloAby (w : Addr)
  | nopAbx1C (w : Addr)
  | oraAbx (w : Addr)
  | aslAbx (w : Addr)
  | sloAbx (w : Addr)
  | jsrAbs (w : Addr)
  | andIzx (d : Byte)
  | rlaIzx (d : Byte)
  | bitZp (d : Byte)
  | andZp (d : Byte)
  | rolZp (d : Byte)
  | rlaZp (d : Byte)
  | andImm (d : Byte)
  | ancImm2B (d : Byte)
  | bitAbs (w : Addr)
  | andAbs (w : Addr)
  | rolAbs (w : Addr)
  | rlaAbs (w : Addr)
  | bmi (d : Byte)
  | andIzy (d : Byte)
  | rlaIzy (d : Byte)
  | nopZpx34 (d : Byte)
  | andZpx (d : Byte)
  | rolZpx (d : Byte)
  | rlaZpx (d : Byte)
  | andAby (w : Addr)
  | rlaAby (w : Addr)
  | nopAbx3C (w : Addr)
  | andAbx (w : Addr)
  | rolAbx (w : Addr)
  | rlaAbx (w : Addr)
  | eorIzx (d : Byte)
  | sreIzx (d : Byte)
  | nopZp44 (d : Byte)
  | eorZp (d : Byte)
  | lsrZp (d : Byte)
  | sreZp (d : Byte)
  | eorImm (d : Byte)
  | alrImm (d : Byte)
  | jmpAbs (w : Addr)
  | eorAbs (w : Addr)
  | lsrAbs (w : Addr)
  | sreAbs (w : Addr)
  | bvc (d : Byte)
  | eorIzy (d : Byte)
  | sreIzy (d : Byte)
  | nopZpx54 (d : Byte)
  | eorZpx (d : Byte)
  | lsrZpx (d : Byte)
  | sreZpx (d : Byte)
  | eorAby (w : Addr)
  | sreAby (w : Addr)
  | nopAbx5C (w : Addr)
  | eorAbx (w : Addr)
  | lsrAbx (w : Addr)
  | sreAbx (w : Addr)
  | adcIzx (d : Byte)
  | rraIzx (d : Byte)
  | nopZp64 (d : Byte)
  | adcZp (d : Byte)
  | rorZp (d : Byte)
  | rraZp (d : Byte)
  | adcImm (d : Byte)
  | arrImm (d : Byte)
  | jmpInd (w : Addr)
  | adcAbs (w : Addr)
  | rorAbs (w : Addr)
  | rraAbs (w : Addr)
  | bvs (d : Byte)
  | adcIzy (d : Byte)
  | rraIzy (d : Byte)
  | nopZpx74 (d : Byte)
  | adcZpx (d : Byte)
  | rorZpx (d : Byte)
  | rraZpx (d : Byte)
  | adcAby (w : Addr)
  | rraAby (w : Addr)
  | nopAbx7C (w : Addr)
  | adcAbx (w : Addr)
  | rorAbx (w : Addr)
  | rraAbx (w : Addr)
  | nopImm80 (d : Byte)
  | staIzx (d : Byte)
  | nopImm82 (d : Byte)
  | saxIzx (d : Byte)
  | styZp (d : Byte)
  | staZp (d : Byte)
  | stxZp (d : Byte)
  | saxZp (d : Byte)
  | nopImm89 (d : Byte)
  | aneImm (d : Byte)
  | styAbs (w : Addr)
  | staAbs (w : Addr)
  | stxAbs (w : Addr)
  | saxAbs (w : Addr)
  | bcc (d : Byte)
  | staIzy (d : Byte)
  | shaIzy (d : Byte)
  | styZpx (d : Byte)
  | staZpx (d : Byte)
  | stxZpy (d : Byte)
  | saxZpy (d : Byte)
  | staAby (w : Addr)
  | tasAby (w : Addr)
  | shyAbx (w : Addr)
  | staAbx (w : Addr)
  | shxAby (w : Addr)
  | shaAby (w : Addr)
  | ldyImm (d : Byte)
  | ldaIzx (d : Byte)
  | ldxImm (d : Byte)
  | laxIzx (d : Byte)
  | ldyZp (d : Byte)
  | ldaZp (d : Byte)
  | ldxZp (d : Byte)
  | laxZp (d : Byte)
  | ldaImm (d : Byte)
  | lxaImm (d : Byte)
  | ldyAbs (w : Addr)
  | ldaAbs (w : Addr)
  | ldxAbs (w : Addr)
  | laxAbs (w : Addr)
  | bcs (d : Byte)
  | ldaIzy (d : Byte)
  | laxIzy (d : Byte)
  | ldyZpx (d : Byte)
  | ldaZpx (d : Byte)
  | ldxZpy (d : Byte)
  | laxZpy (d : Byte)
  | ldaAby (w : Addr)
  | lasAby (w : Addr)
  | ldyAbx (w : Addr)
  | ldaAbx (w : Addr)
  | ldxAby (w : Addr)
  | laxAby (w : Addr)
  | cpyImm (d : Byte)
  | cmpIzx (d : Byte)
  | nopImmC2 (d : Byte)
  | dcpIzx (d : Byte)
  | cpyZp (d : Byte)
  | cmpZp (d : Byte)
  | decZp (d : Byte)
  | dcpZp (d : Byte)
  | cmpImm (d : Byte)
  | sbxImm (d : Byte)
  | cpyAbs (w : Addr)
  | cmpAbs (w : Addr)
  | decAbs (w : Addr)
  | dcpAbs (w : Addr)
  | bne (d : Byte)
  | cmpIzy (d : Byte)
  | dcpIzy (d : Byte)
  | nopZpxD4 (d : Byte)
  | cmpZpx (d : Byte)
  | decZpx (d : Byte)
  | dcpZpx (d : Byte)
  | cmpAby (w : Addr)
  | dcpAby (w : Addr)
  | nopAbxDC (w : Addr)
  | cmpAbx (w : Addr)
  | decAbx (w : Addr)
  | dcpAbx (w : Addr)
  | cpxImm (d : Byte)
  | sbcIzx (d : Byte)
  | nopImmE2 (d : Byte)
  | iscIzx (d : Byte)
  | cpxZp (d : Byte)
  | sbcZp (d : Byte)
  | incZp (d : Byte)
  | iscZp (d : Byte)
  | sbcImm (d : Byte)
  | usbcImm (d : Byte)
  | cpxAbs (w : Addr)
  | sbcAbs (w : Addr)
  | incAbs (w : Addr)
  | iscAbs (w : Addr)
  | beq (d : Byte)
  | sbcIzy (d : Byte)
  | iscIzy (d : Byte)
  | nopZpxF4 (d : Byte)
  | sbcZpx (d : Byte)
  | incZpx (d : Byte)
  | iscZpx (d : Byte)
  | sbcAby (w : Addr)
  | iscAby (w : Addr)
  | nopAbxFC (w : Addr)
  | sbcAbx (w : Addr)
  | incAbx (w : Addr)
  | iscAbx (w : Addr)
  | brk
  | jam02
  | php
  | aslAcc
  | jam12
  | clc
  | nop1A
  | jam22
  | plp
  | rolAcc
  | jam32
  | sec
  | nop3A
  | rti
  | jam42
  | pha
  | lsrAcc
  | jam52
  | cli
  | nop5A
  | rts
  | jam62
  | pla
  | rorAcc
  | jam72
  | sei
  | nop7A
  | dey
  | txa
  | jam92
  | tya
  | txs
  | tay
  | tax
  | jamB2
  | clv
  | tsx
  | iny
  | dex
  | jamD2
  | cld
  | nopDA
  | inx
  | nop
  | jamF2
  | sed
  | nopFA
  deriving DecidableEq, Repr

end Sys2Proof
end

