-- ==== Sys2Proof/Decode.lean ====
section
/-! DEFINITION. The decoder of R70 to R77 and R83 to R86: the opcode map of R75 as a table of descriptors, the
constructor each opcode byte selects with its format (R72), decoding (total), and after it the encoder. -/

namespace Sys2Proof

/-- `hi8:lo8`, the left byte the more significant (R10, R73). -/
def joinBytes (hi lo : Byte) : Addr := hi ++ lo

/-- The low byte of a 16-bit value (R10). -/
def lowByte (a : Addr) : Byte := a.extractLsb' 0 8

/-- `page(a) = a[15:8]` (R10). -/
def page (a : Addr) : Byte := a.extractLsb' 8 8

/-! ## The opcode map (R75) -/

/-- A documented row of the map (R75). -/
def docRow (m : Mnemonic) (mode : Mode) (cycles : Nat) : Row := ⟨m, mode, cycles, false, true, false⟩

/-- A documented row marked `+`: the page-cross penalty applies (R75, R86). -/
def docPlus (m : Mnemonic) (mode : Mode) (cycles : Nat) : Row := ⟨m, mode, cycles, true, true, false⟩

/-- An undocumented row (R75). -/
def undRow (m : Mnemonic) (mode : Mode) (cycles : Nat) : Row := ⟨m, mode, cycles, false, false, false⟩

/-- An undocumented row marked `+` (R75, R86). -/
def undPlus (m : Mnemonic) (mode : Mode) (cycles : Nat) : Row := ⟨m, mode, cycles, true, false, false⟩

/-- One of the five unstable stores (R83). -/
def unstable (m : Mnemonic) (mode : Mode) (cycles : Nat) : Row := ⟨m, mode, cycles, false, false, true⟩

/-- The line `0x` of the map of R75. -/
def opcodeLine0 : List Row :=
  [ docRow .BRK .imp 7, docRow .ORA .izx 6, undRow .JAM .imp 2, undRow .SLO .izx 8,
    undRow .NOP .zp 3, docRow .ORA .zp 3, docRow .ASL .zp 5, undRow .SLO .zp 5,
    docRow .PHP .imp 3, docRow .ORA .imm 2, docRow .ASL .acc 2, undRow .ANC .imm 2,
    undRow .NOP .abs 4, docRow .ORA .abs 4, docRow .ASL .abs 6, undRow .SLO .abs 6 ]

/-- The line `1x` of the map of R75. -/
def opcodeLine1 : List Row :=
  [ docRow .BPL .rel 2, docPlus .ORA .izy 5, undRow .JAM .imp 2, undRow .SLO .izy 8,
    undRow .NOP .zpx 4, docRow .ORA .zpx 4, docRow .ASL .zpx 6, undRow .SLO .zpx 6,
    docRow .CLC .imp 2, docPlus .ORA .aby 4, undRow .NOP .imp 2, undRow .SLO .aby 7,
    undPlus .NOP .abx 4, docPlus .ORA .abx 4, docRow .ASL .abx 7, undRow .SLO .abx 7 ]

/-- The line `2x` of the map of R75. -/
def opcodeLine2 : List Row :=
  [ docRow .JSR .abs 6, docRow .AND .izx 6, undRow .JAM .imp 2, undRow .RLA .izx 8,
    docRow .BIT .zp 3, docRow .AND .zp 3, docRow .ROL .zp 5, undRow .RLA .zp 5,
    docRow .PLP .imp 4, docRow .AND .imm 2, docRow .ROL .acc 2, undRow .ANC .imm 2,
    docRow .BIT .abs 4, docRow .AND .abs 4, docRow .ROL .abs 6, undRow .RLA .abs 6 ]

/-- The line `3x` of the map of R75. -/
def opcodeLine3 : List Row :=
  [ docRow .BMI .rel 2, docPlus .AND .izy 5, undRow .JAM .imp 2, undRow .RLA .izy 8,
    undRow .NOP .zpx 4, docRow .AND .zpx 4, docRow .ROL .zpx 6, undRow .RLA .zpx 6,
    docRow .SEC .imp 2, docPlus .AND .aby 4, undRow .NOP .imp 2, undRow .RLA .aby 7,
    undPlus .NOP .abx 4, docPlus .AND .abx 4, docRow .ROL .abx 7, undRow .RLA .abx 7 ]

/-- The line `4x` of the map of R75. -/
def opcodeLine4 : List Row :=
  [ docRow .RTI .imp 6, docRow .EOR .izx 6, undRow .JAM .imp 2, undRow .SRE .izx 8,
    undRow .NOP .zp 3, docRow .EOR .zp 3, docRow .LSR .zp 5, undRow .SRE .zp 5,
    docRow .PHA .imp 3, docRow .EOR .imm 2, docRow .LSR .acc 2, undRow .ALR .imm 2,
    docRow .JMP .abs 3, docRow .EOR .abs 4, docRow .LSR .abs 6, undRow .SRE .abs 6 ]

/-- The line `5x` of the map of R75. -/
def opcodeLine5 : List Row :=
  [ docRow .BVC .rel 2, docPlus .EOR .izy 5, undRow .JAM .imp 2, undRow .SRE .izy 8,
    undRow .NOP .zpx 4, docRow .EOR .zpx 4, docRow .LSR .zpx 6, undRow .SRE .zpx 6,
    docRow .CLI .imp 2, docPlus .EOR .aby 4, undRow .NOP .imp 2, undRow .SRE .aby 7,
    undPlus .NOP .abx 4, docPlus .EOR .abx 4, docRow .LSR .abx 7, undRow .SRE .abx 7 ]

/-- The line `6x` of the map of R75. -/
def opcodeLine6 : List Row :=
  [ docRow .RTS .imp 6, docRow .ADC .izx 6, undRow .JAM .imp 2, undRow .RRA .izx 8,
    undRow .NOP .zp 3, docRow .ADC .zp 3, docRow .ROR .zp 5, undRow .RRA .zp 5,
    docRow .PLA .imp 4, docRow .ADC .imm 2, docRow .ROR .acc 2, undRow .ARR .imm 2,
    docRow .JMP .ind 5, docRow .ADC .abs 4, docRow .ROR .abs 6, undRow .RRA .abs 6 ]

/-- The line `7x` of the map of R75. -/
def opcodeLine7 : List Row :=
  [ docRow .BVS .rel 2, docPlus .ADC .izy 5, undRow .JAM .imp 2, undRow .RRA .izy 8,
    undRow .NOP .zpx 4, docRow .ADC .zpx 4, docRow .ROR .zpx 6, undRow .RRA .zpx 6,
    docRow .SEI .imp 2, docPlus .ADC .aby 4, undRow .NOP .imp 2, undRow .RRA .aby 7,
    undPlus .NOP .abx 4, docPlus .ADC .abx 4, docRow .ROR .abx 7, undRow .RRA .abx 7 ]

/-- The line `8x` of the map of R75. -/
def opcodeLine8 : List Row :=
  [ undRow .NOP .imm 2, docRow .STA .izx 6, undRow .NOP .imm 2, undRow .SAX .izx 6,
    docRow .STY .zp 3, docRow .STA .zp 3, docRow .STX .zp 3, undRow .SAX .zp 3,
    docRow .DEY .imp 2, undRow .NOP .imm 2, docRow .TXA .imp 2, undRow .ANE .imm 2,
    docRow .STY .abs 4, docRow .STA .abs 4, docRow .STX .abs 4, undRow .SAX .abs 4 ]

/-- The line `9x` of the map of R75. -/
def opcodeLine9 : List Row :=
  [ docRow .BCC .rel 2, docRow .STA .izy 6, undRow .JAM .imp 2, unstable .SHA .izy 6,
    docRow .STY .zpx 4, docRow .STA .zpx 4, docRow .STX .zpy 4, undRow .SAX .zpy 4,
    docRow .TYA .imp 2, docRow .STA .aby 5, docRow .TXS .imp 2, unstable .TAS .aby 5,
    unstable .SHY .abx 5, docRow .STA .abx 5, unstable .SHX .aby 5, unstable .SHA .aby 5 ]

/-- The line `Ax` of the map of R75. -/
def opcodeLineA : List Row :=
  [ docRow .LDY .imm 2, docRow .LDA .izx 6, docRow .LDX .imm 2, undRow .LAX .izx 6,
    docRow .LDY .zp 3, docRow .LDA .zp 3, docRow .LDX .zp 3, undRow .LAX .zp 3,
    docRow .TAY .imp 2, docRow .LDA .imm 2, docRow .TAX .imp 2, undRow .LXA .imm 2,
    docRow .LDY .abs 4, docRow .LDA .abs 4, docRow .LDX .abs 4, undRow .LAX .abs 4 ]

/-- The line `Bx` of the map of R75. -/
def opcodeLineB : List Row :=
  [ docRow .BCS .rel 2, docPlus .LDA .izy 5, undRow .JAM .imp 2, undPlus .LAX .izy 5,
    docRow .LDY .zpx 4, docRow .LDA .zpx 4, docRow .LDX .zpy 4, undRow .LAX .zpy 4,
    docRow .CLV .imp 2, docPlus .LDA .aby 4, docRow .TSX .imp 2, undPlus .LAS .aby 4,
    docPlus .LDY .abx 4, docPlus .LDA .abx 4, docPlus .LDX .aby 4, undPlus .LAX .aby 4 ]

/-- The line `Cx` of the map of R75. -/
def opcodeLineC : List Row :=
  [ docRow .CPY .imm 2, docRow .CMP .izx 6, undRow .NOP .imm 2, undRow .DCP .izx 8,
    docRow .CPY .zp 3, docRow .CMP .zp 3, docRow .DEC .zp 5, undRow .DCP .zp 5,
    docRow .INY .imp 2, docRow .CMP .imm 2, docRow .DEX .imp 2, undRow .SBX .imm 2,
    docRow .CPY .abs 4, docRow .CMP .abs 4, docRow .DEC .abs 6, undRow .DCP .abs 6 ]

/-- The line `Dx` of the map of R75. -/
def opcodeLineD : List Row :=
  [ docRow .BNE .rel 2, docPlus .CMP .izy 5, undRow .JAM .imp 2, undRow .DCP .izy 8,
    undRow .NOP .zpx 4, docRow .CMP .zpx 4, docRow .DEC .zpx 6, undRow .DCP .zpx 6,
    docRow .CLD .imp 2, docPlus .CMP .aby 4, undRow .NOP .imp 2, undRow .DCP .aby 7,
    undPlus .NOP .abx 4, docPlus .CMP .abx 4, docRow .DEC .abx 7, undRow .DCP .abx 7 ]

/-- The line `Ex` of the map of R75. -/
def opcodeLineE : List Row :=
  [ docRow .CPX .imm 2, docRow .SBC .izx 6, undRow .NOP .imm 2, undRow .ISC .izx 8,
    docRow .CPX .zp 3, docRow .SBC .zp 3, docRow .INC .zp 5, undRow .ISC .zp 5,
    docRow .INX .imp 2, docRow .SBC .imm 2, docRow .NOP .imp 2, undRow .USBC .imm 2,
    docRow .CPX .abs 4, docRow .SBC .abs 4, docRow .INC .abs 6, undRow .ISC .abs 6 ]

/-- The line `Fx` of the map of R75. -/
def opcodeLineF : List Row :=
  [ docRow .BEQ .rel 2, docPlus .SBC .izy 5, undRow .JAM .imp 2, undRow .ISC .izy 8,
    undRow .NOP .zpx 4, docRow .SBC .zpx 4, docRow .INC .zpx 6, undRow .ISC .zpx 6,
    docRow .SED .imp 2, docPlus .SBC .aby 4, undRow .NOP .imp 2, undRow .ISC .aby 7,
    undPlus .NOP .abx 4, docPlus .SBC .abx 4, docRow .INC .abx 7, undRow .ISC .abx 7 ]

/-- The opcode map of R75: its sixteen lines one after the other, so that the place of a row is its opcode. -/
def opcodeMap : List Row :=
  opcodeLine0 ++ opcodeLine1 ++ opcodeLine2 ++ opcodeLine3 ++ opcodeLine4 ++ opcodeLine5 ++ opcodeLine6 ++ opcodeLine7 ++
  opcodeLine8 ++ opcodeLine9 ++ opcodeLineA ++ opcodeLineB ++ opcodeLineC ++ opcodeLineD ++ opcodeLineE ++ opcodeLineF

/-- The descriptor of an opcode byte (R74). The map has 256 rows, so the default is never taken. -/
def opcodeRow (b : Byte) : Row := opcodeMap.getD b.toNat (docRow .NOP .imp 2)

/-- The length in bytes of an instruction of a mode (R71). -/
def Mode.length : Mode → Nat
  | .imp | .acc => 1
  | .imm | .zp | .zpx | .zpy | .izx | .izy | .rel => 2
  | .abs | .abx | .aby | .ind => 3

/-- The addressing mode of an operand (R71). -/
def Operand.mode : Operand → Mode
  | .imp => .imp
  | .acc => .acc
  | .imm _ => .imm
  | .zp _ => .zp
  | .zpx _ => .zpx
  | .zpy _ => .zpy
  | .abs _ => .abs
  | .abx _ => .abx
  | .aby _ => .aby
  | .izx _ => .izx
  | .izy _ => .izy
  | .ind _ => .ind
  | .rel _ => .rel

/-- `len` of R12: the length of an instruction with this operand. -/
def Operand.length (op : Operand) : Nat := op.mode.length

/-- The operand bytes in memory order, low byte first (R72, R73). -/
def Operand.bytes : Operand → List Byte
  | .imp | .acc => []
  | .imm d | .zp d | .zpx d | .zpy d | .izx d | .izy d | .rel d => [d]
  | .abs w | .abx w | .aby w | .ind w => [lowByte w, page w]

/-- The opcode byte of an instruction: the `match` column of its row (R72, R74). -/
def Instr.opcode : Instr → Byte
  | .brk => 0x00
  | .oraIzx _ => 0x01
  | .jam02 => 0x02
  | .sloIzx _ => 0x03
  | .nopZp04 _ => 0x04
  | .oraZp _ => 0x05
  | .aslZp _ => 0x06
  | .sloZp _ => 0x07
  | .php => 0x08
  | .oraImm _ => 0x09
  | .aslAcc => 0x0A
  | .ancImm0B _ => 0x0B
  | .nopAbs _ => 0x0C
  | .oraAbs _ => 0x0D
  | .aslAbs _ => 0x0E
  | .sloAbs _ => 0x0F
  | .bpl _ => 0x10
  | .oraIzy _ => 0x11
  | .jam12 => 0x12
  | .sloIzy _ => 0x13
  | .nopZpx14 _ => 0x14
  | .oraZpx _ => 0x15
  | .aslZpx _ => 0x16
  | .sloZpx _ => 0x17
  | .clc => 0x18
  | .oraAby _ => 0x19
  | .nop1A => 0x1A
  | .sloAby _ => 0x1B
  | .nopAbx1C _ => 0x1C
  | .oraAbx _ => 0x1D
  | .aslAbx _ => 0x1E
  | .sloAbx _ => 0x1F
  | .jsrAbs _ => 0x20
  | .andIzx _ => 0x21
  | .jam22 => 0x22
  | .rlaIzx _ => 0x23
  | .bitZp _ => 0x24
  | .andZp _ => 0x25
  | .rolZp _ => 0x26
  | .rlaZp _ => 0x27
  | .plp => 0x28
  | .andImm _ => 0x29
  | .rolAcc => 0x2A
  | .ancImm2B _ => 0x2B
  | .bitAbs _ => 0x2C
  | .andAbs _ => 0x2D
  | .rolAbs _ => 0x2E
  | .rlaAbs _ => 0x2F
  | .bmi _ => 0x30
  | .andIzy _ => 0x31
  | .jam32 => 0x32
  | .rlaIzy _ => 0x33
  | .nopZpx34 _ => 0x34
  | .andZpx _ => 0x35
  | .rolZpx _ => 0x36
  | .rlaZpx _ => 0x37
  | .sec => 0x38
  | .andAby _ => 0x39
  | .nop3A => 0x3A
  | .rlaAby _ => 0x3B
  | .nopAbx3C _ => 0x3C
  | .andAbx _ => 0x3D
  | .rolAbx _ => 0x3E
  | .rlaAbx _ => 0x3F
  | .rti => 0x40
  | .eorIzx _ => 0x41
  | .jam42 => 0x42
  | .sreIzx _ => 0x43
  | .nopZp44 _ => 0x44
  | .eorZp _ => 0x45
  | .lsrZp _ => 0x46
  | .sreZp _ => 0x47
  | .pha => 0x48
  | .eorImm _ => 0x49
  | .lsrAcc => 0x4A
  | .alrImm _ => 0x4B
  | .jmpAbs _ => 0x4C
  | .eorAbs _ => 0x4D
  | .lsrAbs _ => 0x4E
  | .sreAbs _ => 0x4F
  | .bvc _ => 0x50
  | .eorIzy _ => 0x51
  | .jam52 => 0x52
  | .sreIzy _ => 0x53
  | .nopZpx54 _ => 0x54
  | .eorZpx _ => 0x55
  | .lsrZpx _ => 0x56
  | .sreZpx _ => 0x57
  | .cli => 0x58
  | .eorAby _ => 0x59
  | .nop5A => 0x5A
  | .sreAby _ => 0x5B
  | .nopAbx5C _ => 0x5C
  | .eorAbx _ => 0x5D
  | .lsrAbx _ => 0x5E
  | .sreAbx _ => 0x5F
  | .rts => 0x60
  | .adcIzx _ => 0x61
  | .jam62 => 0x62
  | .rraIzx _ => 0x63
  | .nopZp64 _ => 0x64
  | .adcZp _ => 0x65
  | .rorZp _ => 0x66
  | .rraZp _ => 0x67
  | .pla => 0x68
  | .adcImm _ => 0x69
  | .rorAcc => 0x6A
  | .arrImm _ => 0x6B
  | .jmpInd _ => 0x6C
  | .adcAbs _ => 0x6D
  | .rorAbs _ => 0x6E
  | .rraAbs _ => 0x6F
  | .bvs _ => 0x70
  | .adcIzy _ => 0x71
  | .jam72 => 0x72
  | .rraIzy _ => 0x73
  | .nopZpx74 _ => 0x74
  | .adcZpx _ => 0x75
  | .rorZpx _ => 0x76
  | .rraZpx _ => 0x77
  | .sei => 0x78
  | .adcAby _ => 0x79
  | .nop7A => 0x7A
  | .rraAby _ => 0x7B
  | .nopAbx7C _ => 0x7C
  | .adcAbx _ => 0x7D
  | .rorAbx _ => 0x7E
  | .rraAbx _ => 0x7F
  | .nopImm80 _ => 0x80
  | .staIzx _ => 0x81
  | .nopImm82 _ => 0x82
  | .saxIzx _ => 0x83
  | .styZp _ => 0x84
  | .staZp _ => 0x85
  | .stxZp _ => 0x86
  | .saxZp _ => 0x87
  | .dey => 0x88
  | .nopImm89 _ => 0x89
  | .txa => 0x8A
  | .aneImm _ => 0x8B
  | .styAbs _ => 0x8C
  | .staAbs _ => 0x8D
  | .stxAbs _ => 0x8E
  | .saxAbs _ => 0x8F
  | .bcc _ => 0x90
  | .staIzy _ => 0x91
  | .jam92 => 0x92
  | .shaIzy _ => 0x93
  | .styZpx _ => 0x94
  | .staZpx _ => 0x95
  | .stxZpy _ => 0x96
  | .saxZpy _ => 0x97
  | .tya => 0x98
  | .staAby _ => 0x99
  | .txs => 0x9A
  | .tasAby _ => 0x9B
  | .shyAbx _ => 0x9C
  | .staAbx _ => 0x9D
  | .shxAby _ => 0x9E
  | .shaAby _ => 0x9F
  | .ldyImm _ => 0xA0
  | .ldaIzx _ => 0xA1
  | .ldxImm _ => 0xA2
  | .laxIzx _ => 0xA3
  | .ldyZp _ => 0xA4
  | .ldaZp _ => 0xA5
  | .ldxZp _ => 0xA6
  | .laxZp _ => 0xA7
  | .tay => 0xA8
  | .ldaImm _ => 0xA9
  | .tax => 0xAA
  | .lxaImm _ => 0xAB
  | .ldyAbs _ => 0xAC
  | .ldaAbs _ => 0xAD
  | .ldxAbs _ => 0xAE
  | .laxAbs _ => 0xAF
  | .bcs _ => 0xB0
  | .ldaIzy _ => 0xB1
  | .jamB2 => 0xB2
  | .laxIzy _ => 0xB3
  | .ldyZpx _ => 0xB4
  | .ldaZpx _ => 0xB5
  | .ldxZpy _ => 0xB6
  | .laxZpy _ => 0xB7
  | .clv => 0xB8
  | .ldaAby _ => 0xB9
  | .tsx => 0xBA
  | .lasAby _ => 0xBB
  | .ldyAbx _ => 0xBC
  | .ldaAbx _ => 0xBD
  | .ldxAby _ => 0xBE
  | .laxAby _ => 0xBF
  | .cpyImm _ => 0xC0
  | .cmpIzx _ => 0xC1
  | .nopImmC2 _ => 0xC2
  | .dcpIzx _ => 0xC3
  | .cpyZp _ => 0xC4
  | .cmpZp _ => 0xC5
  | .decZp _ => 0xC6
  | .dcpZp _ => 0xC7
  | .iny => 0xC8
  | .cmpImm _ => 0xC9
  | .dex => 0xCA
  | .sbxImm _ => 0xCB
  | .cpyAbs _ => 0xCC
  | .cmpAbs _ => 0xCD
  | .decAbs _ => 0xCE
  | .dcpAbs _ => 0xCF
  | .bne _ => 0xD0
  | .cmpIzy _ => 0xD1
  | .jamD2 => 0xD2
  | .dcpIzy _ => 0xD3
  | .nopZpxD4 _ => 0xD4
  | .cmpZpx _ => 0xD5
  | .decZpx _ => 0xD6
  | .dcpZpx _ => 0xD7
  | .cld => 0xD8
  | .cmpAby _ => 0xD9
  | .nopDA => 0xDA
  | .dcpAby _ => 0xDB
  | .nopAbxDC _ => 0xDC
  | .cmpAbx _ => 0xDD
  | .decAbx _ => 0xDE
  | .dcpAbx _ => 0xDF
  | .cpxImm _ => 0xE0
  | .sbcIzx _ => 0xE1
  | .nopImmE2 _ => 0xE2
  | .iscIzx _ => 0xE3
  | .cpxZp _ => 0xE4
  | .sbcZp _ => 0xE5
  | .incZp _ => 0xE6
  | .iscZp _ => 0xE7
  | .inx => 0xE8
  | .sbcImm _ => 0xE9
  | .nop => 0xEA
  | .usbcImm _ => 0xEB
  | .cpxAbs _ => 0xEC
  | .sbcAbs _ => 0xED
  | .incAbs _ => 0xEE
  | .iscAbs _ => 0xEF
  | .beq _ => 0xF0
  | .sbcIzy _ => 0xF1
  | .jamF2 => 0xF2
  | .iscIzy _ => 0xF3
  | .nopZpxF4 _ => 0xF4
  | .sbcZpx _ => 0xF5
  | .incZpx _ => 0xF6
  | .iscZpx _ => 0xF7
  | .sed => 0xF8
  | .sbcAby _ => 0xF9
  | .nopFA => 0xFA
  | .iscAby _ => 0xFB
  | .nopAbxFC _ => 0xFC
  | .sbcAbx _ => 0xFD
  | .incAbx _ => 0xFE
  | .iscAbx _ => 0xFF

/-- The operand of an instruction: the mode of its row with its operand bytes (R12, R71). -/
def Instr.operand : Instr → Operand
  | .brk => .imp
  | .oraIzx d => .izx d
  | .jam02 => .imp
  | .sloIzx d => .izx d
  | .nopZp04 d => .zp d
  | .oraZp d => .zp d
  | .aslZp d => .zp d
  | .sloZp d => .zp d
  | .php => .imp
  | .oraImm d => .imm d
  | .aslAcc => .acc
  | .ancImm0B d => .imm d
  | .nopAbs w => .abs w
  | .oraAbs w => .abs w
  | .aslAbs w => .abs w
  | .sloAbs w => .abs w
  | .bpl d => .rel d
  | .oraIzy d => .izy d
  | .jam12 => .imp
  | .sloIzy d => .izy d
  | .nopZpx14 d => .zpx d
  | .oraZpx d => .zpx d
  | .aslZpx d => .zpx d
  | .sloZpx d => .zpx d
  | .clc => .imp
  | .oraAby w => .aby w
  | .nop1A => .imp
  | .sloAby w => .aby w
  | .nopAbx1C w => .abx w
  | .oraAbx w => .abx w
  | .aslAbx w => .abx w
  | .sloAbx w => .abx w
  | .jsrAbs w => .abs w
  | .andIzx d => .izx d
  | .jam22 => .imp
  | .rlaIzx d => .izx d
  | .bitZp d => .zp d
  | .andZp d => .zp d
  | .rolZp d => .zp d
  | .rlaZp d => .zp d
  | .plp => .imp
  | .andImm d => .imm d
  | .rolAcc => .acc
  | .ancImm2B d => .imm d
  | .bitAbs w => .abs w
  | .andAbs w => .abs w
  | .rolAbs w => .abs w
  | .rlaAbs w => .abs w
  | .bmi d => .rel d
  | .andIzy d => .izy d
  | .jam32 => .imp
  | .rlaIzy d => .izy d
  | .nopZpx34 d => .zpx d
  | .andZpx d => .zpx d
  | .rolZpx d => .zpx d
  | .rlaZpx d => .zpx d
  | .sec => .imp
  | .andAby w => .aby w
  | .nop3A => .imp
  | .rlaAby w => .aby w
  | .nopAbx3C w => .abx w
  | .andAbx w => .abx w
  | .rolAbx w => .abx w
  | .rlaAbx w => .abx w
  | .rti => .imp
  | .eorIzx d => .izx d
  | .jam42 => .imp
  | .sreIzx d => .izx d
  | .nopZp44 d => .zp d
  | .eorZp d => .zp d
  | .lsrZp d => .zp d
  | .sreZp d => .zp d
  | .pha => .imp
  | .eorImm d => .imm d
  | .lsrAcc => .acc
  | .alrImm d => .imm d
  | .jmpAbs w => .abs w
  | .eorAbs w => .abs w
  | .lsrAbs w => .abs w
  | .sreAbs w => .abs w
  | .bvc d => .rel d
  | .eorIzy d => .izy d
  | .jam52 => .imp
  | .sreIzy d => .izy d
  | .nopZpx54 d => .zpx d
  | .eorZpx d => .zpx d
  | .lsrZpx d => .zpx d
  | .sreZpx d => .zpx d
  | .cli => .imp
  | .eorAby w => .aby w
  | .nop5A => .imp
  | .sreAby w => .aby w
  | .nopAbx5C w => .abx w
  | .eorAbx w => .abx w
  | .lsrAbx w => .abx w
  | .sreAbx w => .abx w
  | .rts => .imp
  | .adcIzx d => .izx d
  | .jam62 => .imp
  | .rraIzx d => .izx d
  | .nopZp64 d => .zp d
  | .adcZp d => .zp d
  | .rorZp d => .zp d
  | .rraZp d => .zp d
  | .pla => .imp
  | .adcImm d => .imm d
  | .rorAcc => .acc
  | .arrImm d => .imm d
  | .jmpInd w => .ind w
  | .adcAbs w => .abs w
  | .rorAbs w => .abs w
  | .rraAbs w => .abs w
  | .bvs d => .rel d
  | .adcIzy d => .izy d
  | .jam72 => .imp
  | .rraIzy d => .izy d
  | .nopZpx74 d => .zpx d
  | .adcZpx d => .zpx d
  | .rorZpx d => .zpx d
  | .rraZpx d => .zpx d
  | .sei => .imp
  | .adcAby w => .aby w
  | .nop7A => .imp
  | .rraAby w => .aby w
  | .nopAbx7C w => .abx w
  | .adcAbx w => .abx w
  | .rorAbx w => .abx w
  | .rraAbx w => .abx w
  | .nopImm80 d => .imm d
  | .staIzx d => .izx d
  | .nopImm82 d => .imm d
  | .saxIzx d => .izx d
  | .styZp d => .zp d
  | .staZp d => .zp d
  | .stxZp d => .zp d
  | .saxZp d => .zp d
  | .dey => .imp
  | .nopImm89 d => .imm d
  | .txa => .imp
  | .aneImm d => .imm d
  | .styAbs w => .abs w
  | .staAbs w => .abs w
  | .stxAbs w => .abs w
  | .saxAbs w => .abs w
  | .bcc d => .rel d
  | .staIzy d => .izy d
  | .jam92 => .imp
  | .shaIzy d => .izy d
  | .styZpx d => .zpx d
  | .staZpx d => .zpx d
  | .stxZpy d => .zpy d
  | .saxZpy d => .zpy d
  | .tya => .imp
  | .staAby w => .aby w
  | .txs => .imp
  | .tasAby w => .aby w
  | .shyAbx w => .abx w
  | .staAbx w => .abx w
  | .shxAby w => .aby w
  | .shaAby w => .aby w
  | .ldyImm d => .imm d
  | .ldaIzx d => .izx d
  | .ldxImm d => .imm d
  | .laxIzx d => .izx d
  | .ldyZp d => .zp d
  | .ldaZp d => .zp d
  | .ldxZp d => .zp d
  | .laxZp d => .zp d
  | .tay => .imp
  | .ldaImm d => .imm d
  | .tax => .imp
  | .lxaImm d => .imm d
  | .ldyAbs w => .abs w
  | .ldaAbs w => .abs w
  | .ldxAbs w => .abs w
  | .laxAbs w => .abs w
  | .bcs d => .rel d
  | .ldaIzy d => .izy d
  | .jamB2 => .imp
  | .laxIzy d => .izy d
  | .ldyZpx d => .zpx d
  | .ldaZpx d => .zpx d
  | .ldxZpy d => .zpy d
  | .laxZpy d => .zpy d
  | .clv => .imp
  | .ldaAby w => .aby w
  | .tsx => .imp
  | .lasAby w => .aby w
  | .ldyAbx w => .abx w
  | .ldaAbx w => .abx w
  | .ldxAby w => .aby w
  | .laxAby w => .aby w
  | .cpyImm d => .imm d
  | .cmpIzx d => .izx d
  | .nopImmC2 d => .imm d
  | .dcpIzx d => .izx d
  | .cpyZp d => .zp d
  | .cmpZp d => .zp d
  | .decZp d => .zp d
  | .dcpZp d => .zp d
  | .iny => .imp
  | .cmpImm d => .imm d
  | .dex => .imp
  | .sbxImm d => .imm d
  | .cpyAbs w => .abs w
  | .cmpAbs w => .abs w
  | .decAbs w => .abs w
  | .dcpAbs w => .abs w
  | .bne d => .rel d
  | .cmpIzy d => .izy d
  | .jamD2 => .imp
  | .dcpIzy d => .izy d
  | .nopZpxD4 d => .zpx d
  | .cmpZpx d => .zpx d
  | .decZpx d => .zpx d
  | .dcpZpx d => .zpx d
  | .cld => .imp
  | .cmpAby w => .aby w
  | .nopDA => .imp
  | .dcpAby w => .aby w
  | .nopAbxDC w => .abx w
  | .cmpAbx w => .abx w
  | .decAbx w => .abx w
  | .dcpAbx w => .abx w
  | .cpxImm d => .imm d
  | .sbcIzx d => .izx d
  | .nopImmE2 d => .imm d
  | .iscIzx d => .izx d
  | .cpxZp d => .zp d
  | .sbcZp d => .zp d
  | .incZp d => .zp d
  | .iscZp d => .zp d
  | .inx => .imp
  | .sbcImm d => .imm d
  | .nop => .imp
  | .usbcImm d => .imm d
  | .cpxAbs w => .abs w
  | .sbcAbs w => .abs w
  | .incAbs w => .abs w
  | .iscAbs w => .abs w
  | .beq d => .rel d
  | .sbcIzy d => .izy d
  | .jamF2 => .imp
  | .iscIzy d => .izy d
  | .nopZpxF4 d => .zpx d
  | .sbcZpx d => .zpx d
  | .incZpx d => .zpx d
  | .iscZpx d => .zpx d
  | .sed => .imp
  | .sbcAby w => .aby w
  | .nopFA => .imp
  | .iscAby w => .aby w
  | .nopAbxFC w => .abx w
  | .sbcAbx w => .abx w
  | .incAbx w => .abx w
  | .iscAbx w => .abx w

/-- The descriptor of an instruction (R74). -/
def Instr.row (i : Instr) : Row := opcodeRow i.opcode

/-- The operation kind of an instruction (R74). -/
def Instr.mnemonic (i : Instr) : Mnemonic := i.row.mnemonic

/-! ## Decoding -/

/-- The three formats of R72, each with the instruction it makes of its operand bytes. -/
inductive Format
  | f1 (i : Instr)
  | f2 (mk : Byte → Instr)
  | f3 (mk : Addr → Instr)

/-- The instructions of the opcodes `0x00` to `0x0F` (R72, R75). -/
def formatLine0 : List Format :=
  [ .f1 .brk, .f2 .oraIzx, .f1 .jam02, .f2 .sloIzx,
    .f2 .nopZp04, .f2 .oraZp, .f2 .aslZp, .f2 .sloZp,
    .f1 .php, .f2 .oraImm, .f1 .aslAcc, .f2 .ancImm0B,
    .f3 .nopAbs, .f3 .oraAbs, .f3 .aslAbs, .f3 .sloAbs ]

/-- The instructions of the opcodes `0x10` to `0x1F` (R72, R75). -/
def formatLine1 : List Format :=
  [ .f2 .bpl, .f2 .oraIzy, .f1 .jam12, .f2 .sloIzy,
    .f2 .nopZpx14, .f2 .oraZpx, .f2 .aslZpx, .f2 .sloZpx,
    .f1 .clc, .f3 .oraAby, .f1 .nop1A, .f3 .sloAby,
    .f3 .nopAbx1C, .f3 .oraAbx, .f3 .aslAbx, .f3 .sloAbx ]

/-- The instructions of the opcodes `0x20` to `0x2F` (R72, R75). -/
def formatLine2 : List Format :=
  [ .f3 .jsrAbs, .f2 .andIzx, .f1 .jam22, .f2 .rlaIzx,
    .f2 .bitZp, .f2 .andZp, .f2 .rolZp, .f2 .rlaZp,
    .f1 .plp, .f2 .andImm, .f1 .rolAcc, .f2 .ancImm2B,
    .f3 .bitAbs, .f3 .andAbs, .f3 .rolAbs, .f3 .rlaAbs ]

/-- The instructions of the opcodes `0x30` to `0x3F` (R72, R75). -/
def formatLine3 : List Format :=
  [ .f2 .bmi, .f2 .andIzy, .f1 .jam32, .f2 .rlaIzy,
    .f2 .nopZpx34, .f2 .andZpx, .f2 .rolZpx, .f2 .rlaZpx,
    .f1 .sec, .f3 .andAby, .f1 .nop3A, .f3 .rlaAby,
    .f3 .nopAbx3C, .f3 .andAbx, .f3 .rolAbx, .f3 .rlaAbx ]

/-- The instructions of the opcodes `0x40` to `0x4F` (R72, R75). -/
def formatLine4 : List Format :=
  [ .f1 .rti, .f2 .eorIzx, .f1 .jam42, .f2 .sreIzx,
    .f2 .nopZp44, .f2 .eorZp, .f2 .lsrZp, .f2 .sreZp,
    .f1 .pha, .f2 .eorImm, .f1 .lsrAcc, .f2 .alrImm,
    .f3 .jmpAbs, .f3 .eorAbs, .f3 .lsrAbs, .f3 .sreAbs ]

/-- The instructions of the opcodes `0x50` to `0x5F` (R72, R75). -/
def formatLine5 : List Format :=
  [ .f2 .bvc, .f2 .eorIzy, .f1 .jam52, .f2 .sreIzy,
    .f2 .nopZpx54, .f2 .eorZpx, .f2 .lsrZpx, .f2 .sreZpx,
    .f1 .cli, .f3 .eorAby, .f1 .nop5A, .f3 .sreAby,
    .f3 .nopAbx5C, .f3 .eorAbx, .f3 .lsrAbx, .f3 .sreAbx ]

/-- The instructions of the opcodes `0x60` to `0x6F` (R72, R75). -/
def formatLine6 : List Format :=
  [ .f1 .rts, .f2 .adcIzx, .f1 .jam62, .f2 .rraIzx,
    .f2 .nopZp64, .f2 .adcZp, .f2 .rorZp, .f2 .rraZp,
    .f1 .pla, .f2 .adcImm, .f1 .rorAcc, .f2 .arrImm,
    .f3 .jmpInd, .f3 .adcAbs, .f3 .rorAbs, .f3 .rraAbs ]

/-- The instructions of the opcodes `0x70` to `0x7F` (R72, R75). -/
def formatLine7 : List Format :=
  [ .f2 .bvs, .f2 .adcIzy, .f1 .jam72, .f2 .rraIzy,
    .f2 .nopZpx74, .f2 .adcZpx, .f2 .rorZpx, .f2 .rraZpx,
    .f1 .sei, .f3 .adcAby, .f1 .nop7A, .f3 .rraAby,
    .f3 .nopAbx7C, .f3 .adcAbx, .f3 .rorAbx, .f3 .rraAbx ]

/-- The instructions of the opcodes `0x80` to `0x8F` (R72, R75). -/
def formatLine8 : List Format :=
  [ .f2 .nopImm80, .f2 .staIzx, .f2 .nopImm82, .f2 .saxIzx,
    .f2 .styZp, .f2 .staZp, .f2 .stxZp, .f2 .saxZp,
    .f1 .dey, .f2 .nopImm89, .f1 .txa, .f2 .aneImm,
    .f3 .styAbs, .f3 .staAbs, .f3 .stxAbs, .f3 .saxAbs ]

/-- The instructions of the opcodes `0x90` to `0x9F` (R72, R75). -/
def formatLine9 : List Format :=
  [ .f2 .bcc, .f2 .staIzy, .f1 .jam92, .f2 .shaIzy,
    .f2 .styZpx, .f2 .staZpx, .f2 .stxZpy, .f2 .saxZpy,
    .f1 .tya, .f3 .staAby, .f1 .txs, .f3 .tasAby,
    .f3 .shyAbx, .f3 .staAbx, .f3 .shxAby, .f3 .shaAby ]

/-- The instructions of the opcodes `0xA0` to `0xAF` (R72, R75). -/
def formatLineA : List Format :=
  [ .f2 .ldyImm, .f2 .ldaIzx, .f2 .ldxImm, .f2 .laxIzx,
    .f2 .ldyZp, .f2 .ldaZp, .f2 .ldxZp, .f2 .laxZp,
    .f1 .tay, .f2 .ldaImm, .f1 .tax, .f2 .lxaImm,
    .f3 .ldyAbs, .f3 .ldaAbs, .f3 .ldxAbs, .f3 .laxAbs ]

/-- The instructions of the opcodes `0xB0` to `0xBF` (R72, R75). -/
def formatLineB : List Format :=
  [ .f2 .bcs, .f2 .ldaIzy, .f1 .jamB2, .f2 .laxIzy,
    .f2 .ldyZpx, .f2 .ldaZpx, .f2 .ldxZpy, .f2 .laxZpy,
    .f1 .clv, .f3 .ldaAby, .f1 .tsx, .f3 .lasAby,
    .f3 .ldyAbx, .f3 .ldaAbx, .f3 .ldxAby, .f3 .laxAby ]

/-- The instructions of the opcodes `0xC0` to `0xCF` (R72, R75). -/
def formatLineC : List Format :=
  [ .f2 .cpyImm, .f2 .cmpIzx, .f2 .nopImmC2, .f2 .dcpIzx,
    .f2 .cpyZp, .f2 .cmpZp, .f2 .decZp, .f2 .dcpZp,
    .f1 .iny, .f2 .cmpImm, .f1 .dex, .f2 .sbxImm,
    .f3 .cpyAbs, .f3 .cmpAbs, .f3 .decAbs, .f3 .dcpAbs ]

/-- The instructions of the opcodes `0xD0` to `0xDF` (R72, R75). -/
def formatLineD : List Format :=
  [ .f2 .bne, .f2 .cmpIzy, .f1 .jamD2, .f2 .dcpIzy,
    .f2 .nopZpxD4, .f2 .cmpZpx, .f2 .decZpx, .f2 .dcpZpx,
    .f1 .cld, .f3 .cmpAby, .f1 .nopDA, .f3 .dcpAby,
    .f3 .nopAbxDC, .f3 .cmpAbx, .f3 .decAbx, .f3 .dcpAbx ]

/-- The instructions of the opcodes `0xE0` to `0xEF` (R72, R75). -/
def formatLineE : List Format :=
  [ .f2 .cpxImm, .f2 .sbcIzx, .f2 .nopImmE2, .f2 .iscIzx,
    .f2 .cpxZp, .f2 .sbcZp, .f2 .incZp, .f2 .iscZp,
    .f1 .inx, .f2 .sbcImm, .f1 .nop, .f2 .usbcImm,
    .f3 .cpxAbs, .f3 .sbcAbs, .f3 .incAbs, .f3 .iscAbs ]

/-- The instructions of the opcodes `0xF0` to `0xFF` (R72, R75). -/
def formatLineF : List Format :=
  [ .f2 .beq, .f2 .sbcIzy, .f1 .jamF2, .f2 .iscIzy,
    .f2 .nopZpxF4, .f2 .sbcZpx, .f2 .incZpx, .f2 .iscZpx,
    .f1 .sed, .f3 .sbcAby, .f1 .nopFA, .f3 .iscAby,
    .f3 .nopAbxFC, .f3 .sbcAbx, .f3 .incAbx, .f3 .iscAbx ]

/-- The instruction each opcode byte selects, in the layout of R75: the place of a format is its opcode. -/
def formatMap : List Format :=
  formatLine0 ++ formatLine1 ++ formatLine2 ++ formatLine3 ++ formatLine4 ++ formatLine5 ++ formatLine6 ++ formatLine7 ++
  formatLine8 ++ formatLine9 ++ formatLineA ++ formatLineB ++ formatLineC ++ formatLineD ++ formatLineE ++ formatLineF

/-- The format of an opcode byte: the opcode byte alone selects the operation, the mode and the length (R70). The map has
256 places, so the default is never taken. -/
def formatOf (b : Byte) : Format := formatMap.getD b.toNat (.f1 .nop)

/-- The instruction that begins with the bytes `b0 b1 b2` (R72, R74): total, since every opcode byte is an
instruction (R77) and none is longer than three bytes (R70). Bytes past its length are not looked at. -/
def decodeBytes (b0 b1 b2 : Byte) : Instr :=
  match formatOf b0 with
  | .f1 i => i
  | .f2 mk => mk b1
  | .f3 mk => mk (joinBytes b2 b1)

/-- Why a list of bytes is no instruction. No opcode is refused (R77): only bytes can be missing. -/
inductive DecodeError
  /-- The list is empty. -/
  | noOpcode
  /-- The list ends before the operand bytes the opcode asks for (R70, R72). -/
  | missingOperand
  deriving DecidableEq, Repr

/-- Decode the first instruction of a list of bytes, and give back the bytes after it (R70, R72). -/
def decode : List Byte → Except DecodeError (Instr × List Byte)
  | [] => .error .noOpcode
  | b :: rest =>
    match formatOf b, rest with
    | .f1 i, rest => .ok (i, rest)
    | .f2 mk, d :: rest => .ok (mk d, rest)
    | .f3 mk, lo :: hi :: rest => .ok (mk (joinBytes hi lo), rest)
    | _, _ => .error .missingOperand

/-! ## Encoding -/

/-- The bytes of an instruction in memory order: the opcode, then the operand bytes (R70, R72). -/
def encode (i : Instr) : List Byte := i.opcode :: i.operand.bytes

/-! ## The opcode table's words -/

/-- Byte `k` of an instruction whose `nbits` bits are `w`, bit 0 the least significant bit of the first byte; a bit
above `nbits` is 0. -/
def tableByte (nbits w k : Nat) : Byte := BitVec.ofNat 8 (w % 2 ^ nbits / 2 ^ (8 * k))

/-- The three bytes of such an instruction in memory order (three is the longest instruction, R70). -/
def tableBytes (nbits w : Nat) : List Byte := [tableByte nbits w 0, tableByte nbits w 1, tableByte nbits w 2]

/-- The instruction the decoder reads from a word numbered as `spec/opcode_table.json` numbers it. -/
def decodeTableWord (nbits w : Nat) : Option Instr :=
  match decode (tableBytes nbits w) with
  | .ok (i, _) => some i
  | .error _ => none

end Sys2Proof
end

