-- ==== Sys2Proof/Config.lean ====
section
/-! DEFINITION. The implementation parameters of R5: the two variant settings, which a `State` carries
(assumption log 4), REG_INIT and MEM_INIT, which the creation of a machine takes as arguments (`Machine/Creation.lean`), and
the two constants no spec fixes, which have no value in Lean (logs 6 and 7). -/

namespace Sys2Proof

/-- UNDOC_MODE of R5 and R240: whether the undocumented opcodes other than the five unstable stores have
their own behaviour (`full`) or are no-ops of the same length and cost (`skip`). -/
inductive UndocMode
  | full
  | skip
  deriving DecidableEq, Repr

/-- A variant (R5, glossary of `00_scope.md`): DECIMAL_ENABLED and UNDOC_MODE, fixed for a machine instance. -/
structure Variant where
  /-- DECIMAL_ENABLED (R5, R151): false for the NES variant. -/
  decimalEnabled : Bool
  /-- UNDOC_MODE (R5, R240). -/
  undocMode : UndocMode
  deriving DecidableEq, Repr

/-- REG_INIT of R5 and R330: the registers at creation, about which the spec lets nothing be assumed (D7). -/
structure RegInit where
  /-- `A`. -/
  a : Byte
  /-- `X`. -/
  x : Byte
  /-- `Y`. -/
  y : Byte
  /-- `S`. -/
  sp : Byte
  /-- `N`. -/
  flagN : Bool
  /-- `V`. -/
  flagV : Bool
  /-- `D`. -/
  flagD : Bool
  /-- `I`. -/
  flagI : Bool
  /-- `Z`. -/
  flagZ : Bool
  /-- `C`. -/
  flagC : Bool
  /-- `PC`. -/
  pc : Addr
  /-- `lastPC`, unspecified before the first step (R32, D18). -/
  lastPC : Addr
  deriving DecidableEq, Repr

/-- MEM_INIT of R5 and R52: what each cell holds until it is seeded or written, any byte for any cell (D8). A parameter of
the creation of a machine; a `State` holds its cells as plain data, never this function. -/
abbrev MemInit := Addr → Byte

/-- ANE_MAGIC of R5 and R255: an unknown constant of the chip (D11). FREE VALUE, assumption log 6. -/
opaque Config.aneMagic : Byte

/-- LXA_MAGIC of R5 and R256: an unknown constant of the chip (D11). FREE VALUE, assumption log 7. -/
opaque Config.lxaMagic : Byte

end Sys2Proof
end

