-- ==== Sys2Proof/Machine/State.lean ====
section
/-! DEFINITION. The state of one machine instance (R20 to R38), its faults (none, R7 and R300), its refusals, and
the one state after reset the host asks for (R332). -/

namespace Sys2Proof.Machine

/-- The memory as a list of cells, addresses strictly rising, no cell listed that holds what an unlisted cell reads
as (`Memory.wf` in `Machine/Memory.lean`); 65536 cells of a byte each (R35, R50). -/
abbrev Memory := List Host.Cell

/-- The whole state of a machine instance (the opening and rules R20 to R36 of `10_state.md`), and the variant the
instance was made with (R5), which no step changes (assumption log 4). -/
structure State where
  /-- The accumulator `A` (R20). -/
  a : Byte
  /-- The index register `X` (R21). -/
  x : Byte
  /-- The index register `Y` (R22). -/
  y : Byte
  /-- The stack pointer `S`, an offset into page 1 (R23). -/
  sp : Byte
  /-- The negative flag `N` (R25). -/
  flagN : Bool
  /-- The overflow flag `V` (R25). -/
  flagV : Bool
  /-- The decimal flag `D` (R25). -/
  flagD : Bool
  /-- The interrupt-disable flag `I` (R25). -/
  flagI : Bool
  /-- The zero flag `Z` (R25). -/
  flagZ : Bool
  /-- The carry flag `C` (R25). -/
  flagC : Bool
  /-- The program counter `PC` (R29). -/
  pc : Addr
  /-- The cycle counter, with no upper bound (R31). -/
  cycles : Nat
  /-- `lastPC`, the address of the last instruction fetched (R32). -/
  lastPC : Addr
  /-- The 65536 memory cells (R35). -/
  mem : Memory
  /-- DECIMAL_ENABLED and UNDOC_MODE (R5): the model's own field, fixed for the instance. -/
  variant : Variant
  deriving DecidableEq, Repr

/-- There is no fault: "every opcode byte maps to some defined behavior, and addresses always resolve" (R7, R300).
The type has no constructor, so no step can answer one: nobody raises one, and that is safe. -/
inductive Fault
  deriving DecidableEq, Repr

/-- Why a step has no meaning. -/
inductive Refusal
  /-- The instruction has no meaning yet. Raised by nobody: every arm of `exec` has its meaning. Safe. -/
  | notModelled (mnemonic : String)
  deriving DecidableEq, Repr

/-- The outcome of an instruction or a step. -/
abbrev Out := Host.Outcome State Fault Refusal

/-- The machine right after reset, as the one state the host asks for: the `reset` operation of R332 on the machine
`State.creation` gives for the zero REG_INIT (DESIGN CHOICE, assumption log 1), the zero MEM_INIT (DESIGN CHOICE, log 2) and
the full NMOS 6502 (log 5); the obligation `ResetOperation` says so (log 3). The spec leaves all three open, and the machine
right after reset for any other choice is `(State.creation regs memInit variant).hostReset`. So `S` is `(0x00 - 3) mod 256`,
`I` is 1, `cycles` is 0 and `PC` is the vector at `0xFFFC`, whose cells are unlisted and read 0x00. -/
def State.reset : State where
  a := 0x00
  x := 0x00
  y := 0x00
  sp := 0xFD
  flagN := false
  flagV := false
  flagD := false
  flagI := true
  flagZ := false
  flagC := false
  pc := 0x0000
  cycles := 0
  lastPC := 0x0000
  mem := []
  variant := { decimalEnabled := true, undocMode := .full }

end Sys2Proof.Machine
end

