-- ==== Sys2Proof/Machine/Memory.lean ====
section
/-! DEFINITION. Memory as data: reading and writing one cell (R50 to R54), and the canonical form. -/

namespace Sys2Proof.Machine

/-- What a cell that is not listed reads as, the same for every cell: the byte the list leaves out. It is no MEM_INIT: a
machine created with any MEM_INIT lists every cell whose byte is another (`Memory.ofInit`, R52, R331). Only `State.reset`,
which lists nothing, takes it for the content of memory (DESIGN CHOICE, unsafe, assumption log 2). -/
def unlistedByte : Byte := 0x00

/-- The number of cells (R50). -/
def memorySize : Nat := 65536

/-- The byte a cell holds (R53). -/
def Memory.read : Memory → Nat → Byte
  | [], _ => unlistedByte
  | (b, w) :: rest, a => if a = b then w else Memory.read rest a

/-- The memory with a cell no longer listed. -/
def Memory.erase : Memory → Nat → Memory
  | [], _ => []
  | (b, w) :: rest, a => if a = b then Memory.erase rest a else (b, w) :: Memory.erase rest a

/-- The memory with a cell listed in its place. -/
def Memory.insert : Memory → Nat → Byte → Memory
  | [], a, v => [(a, v)]
  | (b, w) :: rest, a, v => if a < b then (a, v) :: (b, w) :: rest else (b, w) :: Memory.insert rest a v

/-- The memory with one cell set (R54). Setting a cell to what an unlisted cell reads as removes its entry, which
keeps the canonical form. -/
def Memory.write (m : Memory) (a : Nat) (v : Byte) : Memory :=
  if v = unlistedByte then m.erase a else (m.erase a).insert a v

/-- The cells from an address on, `count` of them, holding what `f` says. -/
def Memory.fill (f : Nat → Byte) : (count addr : Nat) → Memory
  | 0, _ => []
  | count + 1, addr =>
    if f addr = unlistedByte then Memory.fill f count (addr + 1) else (addr, f addr) :: Memory.fill f count (addr + 1)

/-- The memory at creation: every cell `a` holds `MEM_INIT(a)` (R52, R331). -/
def Memory.ofInit (memInit : MemInit) : Memory := Memory.fill (fun a => memInit (BitVec.ofNat 16 a)) memorySize 0

/-- The canonical form above an address: addresses at least `low`, strictly rising, inside the address space, and no
cell listed that holds what an unlisted cell reads as. -/
def Memory.wfFrom : Nat → Memory → Bool
  | _, [] => true
  | low, (a, v) :: rest => decide (low ≤ a) && decide (a < memorySize) && decide (v ≠ unlistedByte) && wfFrom (a + 1) rest

/-- The canonical form. -/
def Memory.wf (m : Memory) : Bool := Memory.wfFrom 0 m

end Sys2Proof.Machine
end

