-- ==== Sys2Proof/Machine/Ops.lean ====
section
/-! DEFINITION. The named operations of R11 over memory, registers and the stack, the status image, and the trap
sequence with its return (R302, R304, R306, R307). -/

namespace Sys2Proof.Machine

/-! ## Memory -/

/-- `MemRead(addr, 1)` (R53). -/
def State.read (s : State) (addr : Addr) : Byte := s.mem.read addr.toNat

/-- `MemWrite(addr, 1, v)` (R54). -/
def State.write (s : State) (addr : Addr) (v : Byte) : State := { s with mem := s.mem.write addr.toNat v }

/-- `Read16(addr)`, low byte first, the second address modulo 65536 (R55). -/
def State.read16 (s : State) (addr : Addr) : Addr := joinBytes (s.read (addr + 1)) (s.read addr)

/-- Bytes written at rising addresses, wrapping past `0xFFFF` (R61 a, R340). -/
def State.writeBytes (s : State) (addr : Addr) : List Byte → State
  | [] => s
  | b :: rest => State.writeBytes (s.write addr b) (addr + 1) rest

/-- Bytes read at rising addresses, wrapping past `0xFFFF` (R61 a, R341). -/
def State.readBytes (s : State) (addr : Addr) : Nat → List Byte
  | 0 => []
  | n + 1 => s.read addr :: State.readBytes s (addr + 1) n

/-! ## Registers -/

/-- `A <- v` (R20). -/
def State.setA (s : State) (v : Byte) : State := { s with a := v }

/-- `X <- v` (R21). -/
def State.setX (s : State) (v : Byte) : State := { s with x := v }

/-- `Y <- v` (R22). -/
def State.setY (s : State) (v : Byte) : State := { s with y := v }

/-- `S <- v` (R23). -/
def State.setSp (s : State) (v : Byte) : State := { s with sp := v }

/-- `PC <- t` (R29). -/
def State.setPc (s : State) (t : Addr) : State := { s with pc := t }

/-- `cycles <- cycles + n` (R31). -/
def State.addCycles (s : State) (n : Nat) : State := { s with cycles := s.cycles + n }

/-! ## Flags -/

/-- `setNZ(v)`: N is bit 7 of the value, Z says that it is zero (R11). -/
def State.setNZ (s : State) (v : Byte) : State := { s with flagN := v.msb, flagZ := decide (v = 0) }

/-- `C <- b` (R25). -/
def State.setC (s : State) (b : Bool) : State := { s with flagC := b }

/-- `V <- b` (R25). -/
def State.setV (s : State) (b : Bool) : State := { s with flagV := b }

/-- `I <- b` (R25). -/
def State.setI (s : State) (b : Bool) : State := { s with flagI := b }

/-- `D <- b` (R25). -/
def State.setD (s : State) (b : Bool) : State := { s with flagD := b }

/-- `A <- setNZ(v)`. -/
def State.loadA (s : State) (v : Byte) : State := (s.setA v).setNZ v

/-- `X <- setNZ(v)`. -/
def State.loadX (s : State) (v : Byte) : State := (s.setX v).setNZ v

/-- `Y <- setNZ(v)`. -/
def State.loadY (s : State) (v : Byte) : State := (s.setY v).setNZ v

/-- `P8(b)`, the 8-bit image of the flags `N:V:1:b:D:I:Z:C` (R11, R26). -/
def State.statusImage (s : State) (b : Bool) : Byte :=
  BitVec.ofBool s.flagN ++ BitVec.ofBool s.flagV ++ 1#1 ++ BitVec.ofBool b ++
    BitVec.ofBool s.flagD ++ BitVec.ofBool s.flagI ++ BitVec.ofBool s.flagZ ++ BitVec.ofBool s.flagC

/-- `setP(v)`: the six flags from a byte; bits 5 and 4 are ignored (R11, R27). -/
def State.setStatus (s : State) (v : Byte) : State :=
  { s with
    flagN := v.getLsbD 7
    flagV := v.getLsbD 6
    flagD := v.getLsbD 3
    flagI := v.getLsbD 2
    flagZ := v.getLsbD 1
    flagC := v.getLsbD 0 }

/-! ## The stack -/

/-- The cell a stack pointer designates, `0x0100 + S` (R23). -/
def stackAddr (sp : Byte) : Addr := joinBytes 0x01 sp

/-- `push(v)`: write at `0x0100 + S`, then decrement S modulo 256 (R24). -/
def State.push (s : State) (v : Byte) : State := (s.write (stackAddr s.sp) v).setSp (s.sp - 1)

/-- The byte `pull()` returns: the one above the stack pointer, in page 1 (R24). -/
def State.pulled (s : State) : Byte := s.read (stackAddr (s.sp + 1))

/-- What `pull()` does to the state: increment S modulo 256 (R24). -/
def State.pop (s : State) : State := s.setSp (s.sp + 1)

/-- Push a 16-bit value, high byte first (R55, R192, R230). -/
def State.pushWord (s : State) (w : Addr) : State := (s.push (page w)).push (lowByte w)

/-- The 16-bit value two pulls give, low byte first (R193, R231). -/
def State.pulledWord (s : State) : Addr := joinBytes s.pop.pulled s.pulled

/-! ## The trap sequence -/

/-- The NMI vector: never read by a step (R60, R303). -/
def nmiVector : Addr := 0xFFFA

/-- The reset vector (R60, R332). -/
def resetVector : Addr := 0xFFFC

/-- The IRQ and BRK vector (R60, R230). -/
def irqVector : Addr := 0xFFFE

/-- Trap entry (R306; for interrupts R304): push the return address, high byte first, then the status image with bit 4
equal to `b`; set I after the image was pushed; continue at the vector, which is read after the pushes. -/
def State.enterTrap (s : State) (ret : Addr) (b : Bool) (vector : Addr) : State :=
  let pushed := (s.pushWord ret).push (s.statusImage b)
  (pushed.setI true).setPc (pushed.read16 vector)

/-- Trap return (R307, R231): pull the status image, restoring the six flags, then the return address, and continue
there. -/
def State.leaveTrap (s : State) : State :=
  let flagged := s.pop.setStatus s.pulled
  flagged.pop.pop.setPc flagged.pulledWord

end Sys2Proof.Machine
end

