-- ==== Sys2Proof/Machine/Operands.lean ====
section
/-! DEFINITION. The thirteen addressing modes (R100 to R116), the operand byte `M`, the page-cross penalty and the
ending every instruction that is no control transfer has (R12). -/

namespace Sys2Proof.Machine

/-- The zero-page address of a byte, `0x00:zp8` (R73). -/
def zeroPage (d : Byte) : Addr := joinBytes 0x00 d

/-- The 16-bit pointer at a zero-page location, its second byte wrapping in page 0 (R109, R110). -/
def zeroPagePointer (d : Byte) (s : State) : Addr := joinBytes (s.read (zeroPage (d + 1))) (s.read (zeroPage d))

/-- The 16-bit pointer of JMP indirect: its second byte is read from the same page as its first (R111). -/
def pagePointer (w : Addr) (s : State) : Addr :=
  joinBytes (s.read (joinBytes (page w) (lowByte w + 1))) (s.read w)

/-- The address of the byte after a branch, `next` of R112. -/
def branchNext (s : State) : Addr := s.pc + 2

/-- The target of a branch: `next` plus the displacement read as two's complement (R112). -/
def branchTarget (d : Byte) (s : State) : Addr := branchNext s + d.signExtend 16

/-- A word plus an index register read as unsigned, modulo 65536 (R107, R108, R110, R115). -/
def indexed (w : Addr) (index : Byte) : Addr := w + index.setWidth 16

/-- `ea`, the effective address (R103 to R112). The modes `imp`, `acc` and `imm` have none (R100 to R102): no
instruction of these modes reads this value. -/
def effAddr (op : Operand) (s : State) : Addr :=
  match op with
  | .imp | .acc | .imm _ => 0
  | .zp d => zeroPage d
  | .zpx d => zeroPage (d + s.x)
  | .zpy d => zeroPage (d + s.y)
  | .abs w => w
  | .abx w => indexed w s.x
  | .aby w => indexed w s.y
  | .izx d => zeroPagePointer (d + s.x) s
  | .izy d => indexed (zeroPagePointer d s) s.y
  | .ind w => pagePointer w s
  | .rel d => branchTarget d s

/-- `crossed`: for the three modes that index a 16-bit base, whether the base and the effective address lie on
different pages; false for every other mode (R113). -/
def pageCrossed (op : Operand) (s : State) : Bool :=
  match op with
  | .abx w | .aby w => decide (page w ≠ page (effAddr op s))
  | .izy d => decide (page (zeroPagePointer d s) ≠ page (effAddr op s))
  | _ => false

/-- `M`, the operand byte: the immediate byte, `A` for the accumulator mode, else the byte at `ea` (R12, R101, R102,
R180). -/
def operandByte (op : Operand) (s : State) : Byte :=
  match op with
  | .imm d => d
  | .acc => s.a
  | _ => s.read (effAddr op s)

/-- `result -> dest` of R180: to `A` for the accumulator mode, else to the cell at `ea`. -/
def State.writeResult (s : State) (op : Operand) (v : Byte) : State :=
  match op with
  | .acc => s.setA v
  | _ => s.write (effAddr op s) v

/-- The cost of an instruction that is no branch: the base count of its row, and one more when the row has the
page-cross penalty and the page was crossed (R12, R114, R355). -/
def cost (r : Row) (op : Operand) (s : State) : Nat :=
  r.cycles + if r.pageCrossPenalty && pageCrossed op s then 1 else 0

/-- The default ending of R12: `PC <- pc0 + len` and the cost added, where `s` is the state the instruction began in and
`t` is what it made of the other registers, the flags and memory. -/
def complete (r : Row) (op : Operand) (s t : State) : Out :=
  .next { t with pc := s.pc + BitVec.ofNat 16 op.length, cycles := s.cycles + cost r op s }

/-- An undocumented opcode other than the unstable stores (R240): in `skip` mode it resolves its mode, charges its cost
and changes nothing else; in `full` mode it does what is given. -/
def undocumented (r : Row) (op : Operand) (s : State) (full : Out) : Out :=
  match s.variant.undocMode with
  | .full => full
  | .skip => complete r op s s

end Sys2Proof.Machine
end

