-- ==== Sys2Proof/Machine/Flags.lean ====
section
/-! DEFINITION. Every flag computation: binary and decimal addition and subtraction (R150, R151, R161, R162), compare
(R163), and the one-bit shifts and rotates (R170 to R173). -/

namespace Sys2Proof.Machine

/-! ## Addition and subtraction -/

/-- A value for `A` with the four flags ADD and SUB write (R161, R162). -/
structure Sum where
  value : Byte
  n : Bool
  v : Bool
  z : Bool
  c : Bool
  deriving DecidableEq, Repr

/-- The low nibble as an integer, `v[3:0]` (R10). -/
def lowNibble (v : Byte) : Nat := v.toNat % 16

/-- The high nibble as an integer, `v[7:4]` (R10). -/
def highNibble (v : Byte) : Nat := v.toNat / 16

/-- `ADD_BIN` (R161): the 9-bit sum. -/
def addBinary (a m : Byte) (c : Bool) : Sum :=
  let s := a.toNat + m.toNat + c.toNat
  let r := BitVec.ofNat 8 s
  { value := r
    n := r.msb
    v := ((a ^^^ r) &&& (m ^^^ r)).msb
    z := decide (r = 0)
    c := decide (s > 255) }

/-- `ADD_DEC` (R161): N and V from the sum before the high-nibble correction, Z from the plain binary sum, C and the
value from the corrected sum. Operands that are no valid BCD go through the same formula. -/
def addDecimal (a m : Byte) (c : Bool) : Sum :=
  let bin := BitVec.ofNat 8 (a.toNat + m.toNat + c.toNat)
  let al0 := lowNibble a + lowNibble m + c.toNat
  let al := if al0 ≥ 10 then (al0 + 6) % 16 + 16 else al0
  let s := (a &&& 0xF0).toNat + (m &&& 0xF0).toNat + al
  let ss := (a &&& 0xF0).toInt + (m &&& 0xF0).toInt + (al : Int)
  let fixed := if s ≥ 0xA0 then s + 0x60 else s
  { value := BitVec.ofNat 8 fixed
    n := (BitVec.ofNat 8 s).msb
    v := decide (ss < -128 ∨ ss > 127)
    z := decide (bin = 0)
    c := decide (fixed ≥ 0x100) }

/-- The value SUB writes to `A` in decimal mode (R162). -/
def subDecimalValue (a m : Byte) (c : Bool) : Byte :=
  let al0 : Int := (lowNibble a : Int) - (lowNibble m : Int) + (c.toNat : Int) - 1
  let al : Int := if al0 < 0 then (al0 - 6) % 16 - 16 else al0
  let t0 : Int := ((a &&& 0xF0).toNat : Int) - ((m &&& 0xF0).toNat : Int) + al
  let t : Int := if t0 < 0 then t0 - 0x60 else t0
  BitVec.ofInt 8 t

/-- `SUB` (R162): all four flags are those of the binary subtraction; in decimal mode only the value differs. -/
def subtract (decimal : Bool) (a m : Byte) (c : Bool) : Sum :=
  let s := a.toNat + (m ^^^ 0xFF).toNat + c.toNat
  let r := BitVec.ofNat 8 s
  { value := if decimal then subDecimalValue a m c else r
    n := r.msb
    v := ((a ^^^ m) &&& (a ^^^ r)).msb
    z := decide (r = 0)
    c := decide (s > 255) }

/-- Decimal mode is in force when `D == 1` and DECIMAL_ENABLED (R151). -/
def State.decimalMode (s : State) : Bool := s.flagD && s.variant.decimalEnabled

/-- Put a sum into `A` and the flags N, V, Z, C. -/
def State.putSum (s : State) (r : Sum) : State :=
  { s with a := r.value, flagN := r.n, flagV := r.v, flagZ := r.z, flagC := r.c }

/-- `ADD(m)` (R161). -/
def State.add (s : State) (m : Byte) : State :=
  s.putSum (if s.decimalMode then addDecimal s.a m s.flagC else addBinary s.a m s.flagC)

/-- `SUB(m)` (R162). -/
def State.sub (s : State) (m : Byte) : State :=
  s.putSum (subtract s.decimalMode s.a m s.flagC)

/-- `COMPARE(r, m)` (R163): a subtraction without borrow-in, never decimal, that writes no register and leaves V. -/
def State.compare (s : State) (r m : Byte) : State :=
  (s.setC (decide (m.toNat ≤ r.toNat))).setNZ (r - m)

/-! ## Shifts and rotates by one bit -/

/-- A shifted byte and the bit shifted out. -/
structure Shifted where
  value : Byte
  carry : Bool
  deriving DecidableEq, Repr

/-- Shift left; bit 0 becomes 0, bit 7 goes to the carry (R170). -/
def shiftLeft (m : Byte) : Shifted := ⟨m <<< 1, m.getLsbD 7⟩

/-- Shift right; bit 7 becomes 0, bit 0 goes to the carry (R171). -/
def shiftRight (m : Byte) : Shifted := ⟨m >>> 1, m.getLsbD 0⟩

/-- Rotate left; the old carry enters bit 0 (R172). -/
def rotateLeft (m : Byte) (c : Bool) : Shifted := ⟨(m <<< 1) ||| (BitVec.ofBool c).setWidth 8, m.getLsbD 7⟩

/-- Rotate right; the old carry enters bit 7 (R173). -/
def rotateRight (m : Byte) (c : Bool) : Shifted := ⟨(m >>> 1) ||| (if c then 0x80 else 0x00), m.getLsbD 0⟩

/-! ## The flags of ARR -/

/-- `ARR` on `t = A and M` (R251), with the flags taken from inside the adder. -/
def arrResult (decimal : Bool) (t : Byte) (c : Bool) : Sum :=
  let r := (rotateRight t c).value
  if decimal then
    let low := if lowNibble t + (t.getLsbD 0).toNat > 5 then (r &&& 0xF0) ||| ((r + 6) &&& 0x0F) else r
    let carry := decide (highNibble t + (t.getLsbD 4).toNat > 5)
    { value := if carry then low + 0x60 else low
      n := c
      v := (t ^^^ r).getLsbD 6
      z := decide (r = 0)
      c := carry }
  else
    { value := r
      n := r.msb
      v := r.getLsbD 6 ^^ r.getLsbD 5
      z := decide (r = 0)
      c := r.getLsbD 6 }

end Sys2Proof.Machine
end

