-- ==== Sys2Proof/Machine/Arithmetic.lean ====
section
/-! DEFINITION. Arithmetic, logic, compare and bit test: ADC SBC AND ORA EOR CMP CPX CPY BIT (R150 to R163).
The shared operation of each mnemonic comes first, then the instructions, one definition per row of the opcode table. -/

namespace Sys2Proof.Machine

/-- ADC: `ADD(M)` (R152). -/
def doAdc (r : Row) (op : Operand) (s : State) : Out := complete r op s (s.add (operandByte op s))

/-- SBC: `SUB(M)` (R153). -/
def doSbc (r : Row) (op : Operand) (s : State) : Out := complete r op s (s.sub (operandByte op s))

/-- AND: `A <- setNZ(A and M)` (R154). -/
def doAnd (r : Row) (op : Operand) (s : State) : Out := complete r op s (s.loadA (s.a &&& operandByte op s))

/-- ORA: `A <- setNZ(A or M)` (R155). -/
def doOra (r : Row) (op : Operand) (s : State) : Out := complete r op s (s.loadA (s.a ||| operandByte op s))

/-- EOR: `A <- setNZ(A xor M)` (R156). -/
def doEor (r : Row) (op : Operand) (s : State) : Out := complete r op s (s.loadA (s.a ^^^ operandByte op s))

/-- CMP: `COMPARE(A, M)` (R157). -/
def doCmp (r : Row) (op : Operand) (s : State) : Out := complete r op s (s.compare s.a (operandByte op s))

/-- CPX: `COMPARE(X, M)` (R158). -/
def doCpx (r : Row) (op : Operand) (s : State) : Out := complete r op s (s.compare s.x (operandByte op s))

/-- CPY: `COMPARE(Y, M)` (R159). -/
def doCpy (r : Row) (op : Operand) (s : State) : Out := complete r op s (s.compare s.y (operandByte op s))

/-- BIT: Z from `A and M`; N and V are bits 7 and 6 of M (R160). -/
def doBit (r : Row) (op : Operand) (s : State) : Out :=
  let m := operandByte op s
  complete r op s { s with flagZ := decide (s.a &&& m = 0), flagN := m.getLsbD 7, flagV := m.getLsbD 6 }

/-! ## The instructions -/

/-- `61` `ADC ($nn,X)` (R152, R109). -/
def execAdcIzx (d : Byte) (s : State) : Out := doAdc (opcodeRow 0x61) (.izx d) s

/-- `65` `ADC $nn` (R152, R103). -/
def execAdcZp (d : Byte) (s : State) : Out := doAdc (opcodeRow 0x65) (.zp d) s

/-- `69` `ADC #$nn` (R152, R102). -/
def execAdcImm (d : Byte) (s : State) : Out := doAdc (opcodeRow 0x69) (.imm d) s

/-- `6D` `ADC $nnnn` (R152, R106). -/
def execAdcAbs (w : Addr) (s : State) : Out := doAdc (opcodeRow 0x6D) (.abs w) s

/-- `71` `ADC ($nn),Y` (R152, R110). -/
def execAdcIzy (d : Byte) (s : State) : Out := doAdc (opcodeRow 0x71) (.izy d) s

/-- `75` `ADC $nn,X` (R152, R104). -/
def execAdcZpx (d : Byte) (s : State) : Out := doAdc (opcodeRow 0x75) (.zpx d) s

/-- `79` `ADC $nnnn,Y` (R152, R108). -/
def execAdcAby (w : Addr) (s : State) : Out := doAdc (opcodeRow 0x79) (.aby w) s

/-- `7D` `ADC $nnnn,X` (R152, R107). -/
def execAdcAbx (w : Addr) (s : State) : Out := doAdc (opcodeRow 0x7D) (.abx w) s

/-- `E1` `SBC ($nn,X)` (R153, R109). -/
def execSbcIzx (d : Byte) (s : State) : Out := doSbc (opcodeRow 0xE1) (.izx d) s

/-- `E5` `SBC $nn` (R153, R103). -/
def execSbcZp (d : Byte) (s : State) : Out := doSbc (opcodeRow 0xE5) (.zp d) s

/-- `E9` `SBC #$nn` (R153, R102). -/
def execSbcImm (d : Byte) (s : State) : Out := doSbc (opcodeRow 0xE9) (.imm d) s

/-- `ED` `SBC $nnnn` (R153, R106). -/
def execSbcAbs (w : Addr) (s : State) : Out := doSbc (opcodeRow 0xED) (.abs w) s

/-- `F1` `SBC ($nn),Y` (R153, R110). -/
def execSbcIzy (d : Byte) (s : State) : Out := doSbc (opcodeRow 0xF1) (.izy d) s

/-- `F5` `SBC $nn,X` (R153, R104). -/
def execSbcZpx (d : Byte) (s : State) : Out := doSbc (opcodeRow 0xF5) (.zpx d) s

/-- `F9` `SBC $nnnn,Y` (R153, R108). -/
def execSbcAby (w : Addr) (s : State) : Out := doSbc (opcodeRow 0xF9) (.aby w) s

/-- `FD` `SBC $nnnn,X` (R153, R107). -/
def execSbcAbx (w : Addr) (s : State) : Out := doSbc (opcodeRow 0xFD) (.abx w) s

/-- `21` `AND ($nn,X)` (R154, R109). -/
def execAndIzx (d : Byte) (s : State) : Out := doAnd (opcodeRow 0x21) (.izx d) s

/-- `25` `AND $nn` (R154, R103). -/
def execAndZp (d : Byte) (s : State) : Out := doAnd (opcodeRow 0x25) (.zp d) s

/-- `29` `AND #$nn` (R154, R102). -/
def execAndImm (d : Byte) (s : State) : Out := doAnd (opcodeRow 0x29) (.imm d) s

/-- `2D` `AND $nnnn` (R154, R106). -/
def execAndAbs (w : Addr) (s : State) : Out := doAnd (opcodeRow 0x2D) (.abs w) s

/-- `31` `AND ($nn),Y` (R154, R110). -/
def execAndIzy (d : Byte) (s : State) : Out := doAnd (opcodeRow 0x31) (.izy d) s

/-- `35` `AND $nn,X` (R154, R104). -/
def execAndZpx (d : Byte) (s : State) : Out := doAnd (opcodeRow 0x35) (.zpx d) s

/-- `39` `AND $nnnn,Y` (R154, R108). -/
def execAndAby (w : Addr) (s : State) : Out := doAnd (opcodeRow 0x39) (.aby w) s

/-- `3D` `AND $nnnn,X` (R154, R107). -/
def execAndAbx (w : Addr) (s : State) : Out := doAnd (opcodeRow 0x3D) (.abx w) s

/-- `01` `ORA ($nn,X)` (R155, R109). -/
def execOraIzx (d : Byte) (s : State) : Out := doOra (opcodeRow 0x01) (.izx d) s

/-- `05` `ORA $nn` (R155, R103). -/
def execOraZp (d : Byte) (s : State) : Out := doOra (opcodeRow 0x05) (.zp d) s

/-- `09` `ORA #$nn` (R155, R102). -/
def execOraImm (d : Byte) (s : State) : Out := doOra (opcodeRow 0x09) (.imm d) s

/-- `0D` `ORA $nnnn` (R155, R106). -/
def execOraAbs (w : Addr) (s : State) : Out := doOra (opcodeRow 0x0D) (.abs w) s

/-- `11` `ORA ($nn),Y` (R155, R110). -/
def execOraIzy (d : Byte) (s : State) : Out := doOra (opcodeRow 0x11) (.izy d) s

/-- `15` `ORA $nn,X` (R155, R104). -/
def execOraZpx (d : Byte) (s : State) : Out := doOra (opcodeRow 0x15) (.zpx d) s

/-- `19` `ORA $nnnn,Y` (R155, R108). -/
def execOraAby (w : Addr) (s : State) : Out := doOra (opcodeRow 0x19) (.aby w) s

/-- `1D` `ORA $nnnn,X` (R155, R107). -/
def execOraAbx (w : Addr) (s : State) : Out := doOra (opcodeRow 0x1D) (.abx w) s

/-- `41` `EOR ($nn,X)` (R156, R109). -/
def execEorIzx (d : Byte) (s : State) : Out := doEor (opcodeRow 0x41) (.izx d) s

/-- `45` `EOR $nn` (R156, R103). -/
def execEorZp (d : Byte) (s : State) : Out := doEor (opcodeRow 0x45) (.zp d) s

/-- `49` `EOR #$nn` (R156, R102). -/
def execEorImm (d : Byte) (s : State) : Out := doEor (opcodeRow 0x49) (.imm d) s

/-- `4D` `EOR $nnnn` (R156, R106). -/
def execEorAbs (w : Addr) (s : State) : Out := doEor (opcodeRow 0x4D) (.abs w) s

/-- `51` `EOR ($nn),Y` (R156, R110). -/
def execEorIzy (d : Byte) (s : State) : Out := doEor (opcodeRow 0x51) (.izy d) s

/-- `55` `EOR $nn,X` (R156, R104). -/
def execEorZpx (d : Byte) (s : State) : Out := doEor (opcodeRow 0x55) (.zpx d) s

/-- `59` `EOR $nnnn,Y` (R156, R108). -/
def execEorAby (w : Addr) (s : State) : Out := doEor (opcodeRow 0x59) (.aby w) s

/-- `5D` `EOR $nnnn,X` (R156, R107). -/
def execEorAbx (w : Addr) (s : State) : Out := doEor (opcodeRow 0x5D) (.abx w) s

/-- `C1` `CMP ($nn,X)` (R157, R109). -/
def execCmpIzx (d : Byte) (s : State) : Out := doCmp (opcodeRow 0xC1) (.izx d) s

/-- `C5` `CMP $nn` (R157, R103). -/
def execCmpZp (d : Byte) (s : State) : Out := doCmp (opcodeRow 0xC5) (.zp d) s

/-- `C9` `CMP #$nn` (R157, R102). -/
def execCmpImm (d : Byte) (s : State) : Out := doCmp (opcodeRow 0xC9) (.imm d) s

/-- `CD` `CMP $nnnn` (R157, R106). -/
def execCmpAbs (w : Addr) (s : State) : Out := doCmp (opcodeRow 0xCD) (.abs w) s

/-- `D1` `CMP ($nn),Y` (R157, R110). -/
def execCmpIzy (d : Byte) (s : State) : Out := doCmp (opcodeRow 0xD1) (.izy d) s

/-- `D5` `CMP $nn,X` (R157, R104). -/
def execCmpZpx (d : Byte) (s : State) : Out := doCmp (opcodeRow 0xD5) (.zpx d) s

/-- `D9` `CMP $nnnn,Y` (R157, R108). -/
def execCmpAby (w : Addr) (s : State) : Out := doCmp (opcodeRow 0xD9) (.aby w) s

/-- `DD` `CMP $nnnn,X` (R157, R107). -/
def execCmpAbx (w : Addr) (s : State) : Out := doCmp (opcodeRow 0xDD) (.abx w) s

/-- `E0` `CPX #$nn` (R158, R102). -/
def execCpxImm (d : Byte) (s : State) : Out := doCpx (opcodeRow 0xE0) (.imm d) s

/-- `E4` `CPX $nn` (R158, R103). -/
def execCpxZp (d : Byte) (s : State) : Out := doCpx (opcodeRow 0xE4) (.zp d) s

/-- `EC` `CPX $nnnn` (R158, R106). -/
def execCpxAbs (w : Addr) (s : State) : Out := doCpx (opcodeRow 0xEC) (.abs w) s

/-- `C0` `CPY #$nn` (R159, R102). -/
def execCpyImm (d : Byte) (s : State) : Out := doCpy (opcodeRow 0xC0) (.imm d) s

/-- `C4` `CPY $nn` (R159, R103). -/
def execCpyZp (d : Byte) (s : State) : Out := doCpy (opcodeRow 0xC4) (.zp d) s

/-- `CC` `CPY $nnnn` (R159, R106). -/
def execCpyAbs (w : Addr) (s : State) : Out := doCpy (opcodeRow 0xCC) (.abs w) s

/-- `24` `BIT $nn` (R160, R103). -/
def execBitZp (d : Byte) (s : State) : Out := doBit (opcodeRow 0x24) (.zp d) s

/-- `2C` `BIT $nnnn` (R160, R106). -/
def execBitAbs (w : Addr) (s : State) : Out := doBit (opcodeRow 0x2C) (.abs w) s

end Sys2Proof.Machine
end

