-- ==== Sys2Proof/Machine/Control.lean ====
section
/-! DEFINITION. Control transfer: JMP JSR RTS and the eight conditional branches (R190 to R203).
The shared operation of each mnemonic comes first, then the instructions, one definition per row of the opcode table. -/

namespace Sys2Proof.Machine

/-- JMP, absolute and indirect: `PC <- ea`, the target of the mode (R106, R111, R190, R191). -/
def doJmp (r : Row) (op : Operand) (s : State) : Out := .next ((s.setPc (effAddr op s)).addCycles r.cycles)

/-- JSR (R192): push the address of its own last byte, then read its third byte, after the two pushes (R59), so a push
that lands on that byte is what is used. The low target byte is the operand's, read before. -/
def doJsr (r : Row) (op : Operand) (s : State) : Out :=
  let pushed := s.pushWord (s.pc + 2)
  let hi := pushed.read (s.pc + 2)
  .next ((pushed.setPc (joinBytes hi (lowByte (effAddr op s)))).addCycles r.cycles)

/-- RTS: pull the return address, low byte first, and add one (R193). -/
def doRts (r : Row) (_ : Operand) (s : State) : Out :=
  .next ((s.pop.pop.setPc (s.pulledWord + 1)).addCycles r.cycles)

/-- The common rule of the eight branches (R194): 2 cycles not taken, 3 taken to the page of the next instruction, 4 taken
to another page; the row's base count is 2. -/
def branchIf (cond : Bool) (r : Row) (op : Operand) (s : State) : Out :=
  if cond then
    .next ((s.setPc (effAddr op s)).addCycles
      (r.cycles + 1 + if page (effAddr op s) = page (branchNext s) then 0 else 1))
  else .next ((s.setPc (branchNext s)).addCycles r.cycles)

/-- BPL: taken when N is 0 (R195). -/
def doBpl (r : Row) (op : Operand) (s : State) : Out := branchIf (!s.flagN) r op s

/-- BMI: taken when N is 1 (R196). -/
def doBmi (r : Row) (op : Operand) (s : State) : Out := branchIf s.flagN r op s

/-- BVC: taken when V is 0 (R197). -/
def doBvc (r : Row) (op : Operand) (s : State) : Out := branchIf (!s.flagV) r op s

/-- BVS: taken when V is 1 (R198). -/
def doBvs (r : Row) (op : Operand) (s : State) : Out := branchIf s.flagV r op s

/-- BCC: taken when C is 0 (R199). -/
def doBcc (r : Row) (op : Operand) (s : State) : Out := branchIf (!s.flagC) r op s

/-- BCS: taken when C is 1 (R200). -/
def doBcs (r : Row) (op : Operand) (s : State) : Out := branchIf s.flagC r op s

/-- BNE: taken when Z is 0 (R201). -/
def doBne (r : Row) (op : Operand) (s : State) : Out := branchIf (!s.flagZ) r op s

/-- BEQ: taken when Z is 1 (R202). -/
def doBeq (r : Row) (op : Operand) (s : State) : Out := branchIf s.flagZ r op s

/-! ## The instructions -/

/-- `4C` `JMP $nnnn` (R190, R106). -/
def execJmpAbs (w : Addr) (s : State) : Out := doJmp (opcodeRow 0x4C) (.abs w) s

/-- `6C` `JMP ($nnnn)` (R191, R111). -/
def execJmpInd (w : Addr) (s : State) : Out := doJmp (opcodeRow 0x6C) (.ind w) s

/-- `20` `JSR $nnnn` (R192, R106). -/
def execJsrAbs (w : Addr) (s : State) : Out := doJsr (opcodeRow 0x20) (.abs w) s

/-- `60` `RTS` (R193, R100). -/
def execRts (s : State) : Out := doRts (opcodeRow 0x60) .imp s

/-- `10` `BPL rel8` (R195, R112). -/
def execBpl (d : Byte) (s : State) : Out := doBpl (opcodeRow 0x10) (.rel d) s

/-- `30` `BMI rel8` (R196, R112). -/
def execBmi (d : Byte) (s : State) : Out := doBmi (opcodeRow 0x30) (.rel d) s

/-- `50` `BVC rel8` (R197, R112). -/
def execBvc (d : Byte) (s : State) : Out := doBvc (opcodeRow 0x50) (.rel d) s

/-- `70` `BVS rel8` (R198, R112). -/
def execBvs (d : Byte) (s : State) : Out := doBvs (opcodeRow 0x70) (.rel d) s

/-- `90` `BCC rel8` (R199, R112). -/
def execBcc (d : Byte) (s : State) : Out := doBcc (opcodeRow 0x90) (.rel d) s

/-- `B0` `BCS rel8` (R200, R112). -/
def execBcs (d : Byte) (s : State) : Out := doBcs (opcodeRow 0xB0) (.rel d) s

/-- `D0` `BNE rel8` (R201, R112). -/
def execBne (d : Byte) (s : State) : Out := doBne (opcodeRow 0xD0) (.rel d) s

/-- `F0` `BEQ rel8` (R202, R112). -/
def execBeq (d : Byte) (s : State) : Out := doBeq (opcodeRow 0xF0) (.rel d) s

end Sys2Proof.Machine
end

