-- ==== Sys2Proof/Machine/LoadStore.lean ====
section
/-! DEFINITION. Loads, stores and register transfers: LDA LDX LDY STA STX STY TAX TAY TXA TYA TSX TXS (R130 to R141).
The shared operation of each mnemonic comes first, then the instructions, one definition per row of the opcode table. -/

namespace Sys2Proof.Machine

/-- LDA: `A <- setNZ(M)` (R130). -/
def doLda (r : Row) (op : Operand) (s : State) : Out := complete r op s (s.loadA (operandByte op s))

/-- LDX: `X <- setNZ(M)` (R131). -/
def doLdx (r : Row) (op : Operand) (s : State) : Out := complete r op s (s.loadX (operandByte op s))

/-- LDY: `Y <- setNZ(M)` (R132). -/
def doLdy (r : Row) (op : Operand) (s : State) : Out := complete r op s (s.loadY (operandByte op s))

/-- STA: `MemWrite(ea, 1, A)`; no flag (R133). -/
def doSta (r : Row) (op : Operand) (s : State) : Out := complete r op s (s.write (effAddr op s) s.a)

/-- STX: `MemWrite(ea, 1, X)`; no flag (R134). -/
def doStx (r : Row) (op : Operand) (s : State) : Out := complete r op s (s.write (effAddr op s) s.x)

/-- STY: `MemWrite(ea, 1, Y)`; no flag (R135). -/
def doSty (r : Row) (op : Operand) (s : State) : Out := complete r op s (s.write (effAddr op s) s.y)

/-- TAX: `X <- setNZ(A)` (R136). -/
def doTax (r : Row) (op : Operand) (s : State) : Out := complete r op s (s.loadX s.a)

/-- TAY: `Y <- setNZ(A)` (R137). -/
def doTay (r : Row) (op : Operand) (s : State) : Out := complete r op s (s.loadY s.a)

/-- TXA: `A <- setNZ(X)` (R138). -/
def doTxa (r : Row) (op : Operand) (s : State) : Out := complete r op s (s.loadA s.x)

/-- TYA: `A <- setNZ(Y)` (R139). -/
def doTya (r : Row) (op : Operand) (s : State) : Out := complete r op s (s.loadA s.y)

/-- TSX: `X <- setNZ(S)` (R140). -/
def doTsx (r : Row) (op : Operand) (s : State) : Out := complete r op s (s.loadX s.sp)

/-- TXS: `S <- X`; no flag (R141). -/
def doTxs (r : Row) (op : Operand) (s : State) : Out := complete r op s (s.setSp s.x)

/-! ## The instructions -/

/-- `A1` `LDA ($nn,X)` (R130, R109). -/
def execLdaIzx (d : Byte) (s : State) : Out := doLda (opcodeRow 0xA1) (.izx d) s

/-- `A5` `LDA $nn` (R130, R103). -/
def execLdaZp (d : Byte) (s : State) : Out := doLda (opcodeRow 0xA5) (.zp d) s

/-- `A9` `LDA #$nn` (R130, R102). -/
def execLdaImm (d : Byte) (s : State) : Out := doLda (opcodeRow 0xA9) (.imm d) s

/-- `AD` `LDA $nnnn` (R130, R106). -/
def execLdaAbs (w : Addr) (s : State) : Out := doLda (opcodeRow 0xAD) (.abs w) s

/-- `B1` `LDA ($nn),Y` (R130, R110). -/
def execLdaIzy (d : Byte) (s : State) : Out := doLda (opcodeRow 0xB1) (.izy d) s

/-- `B5` `LDA $nn,X` (R130, R104). -/
def execLdaZpx (d : Byte) (s : State) : Out := doLda (opcodeRow 0xB5) (.zpx d) s

/-- `B9` `LDA $nnnn,Y` (R130, R108). -/
def execLdaAby (w : Addr) (s : State) : Out := doLda (opcodeRow 0xB9) (.aby w) s

/-- `BD` `LDA $nnnn,X` (R130, R107). -/
def execLdaAbx (w : Addr) (s : State) : Out := doLda (opcodeRow 0xBD) (.abx w) s

/-- `A2` `LDX #$nn` (R131, R102). -/
def execLdxImm (d : Byte) (s : State) : Out := doLdx (opcodeRow 0xA2) (.imm d) s

/-- `A6` `LDX $nn` (R131, R103). -/
def execLdxZp (d : Byte) (s : State) : Out := doLdx (opcodeRow 0xA6) (.zp d) s

/-- `AE` `LDX $nnnn` (R131, R106). -/
def execLdxAbs (w : Addr) (s : State) : Out := doLdx (opcodeRow 0xAE) (.abs w) s

/-- `B6` `LDX $nn,Y` (R131, R105). -/
def execLdxZpy (d : Byte) (s : State) : Out := doLdx (opcodeRow 0xB6) (.zpy d) s

/-- `BE` `LDX $nnnn,Y` (R131, R108). -/
def execLdxAby (w : Addr) (s : State) : Out := doLdx (opcodeRow 0xBE) (.aby w) s

/-- `A0` `LDY #$nn` (R132, R102). -/
def execLdyImm (d : Byte) (s : State) : Out := doLdy (opcodeRow 0xA0) (.imm d) s

/-- `A4` `LDY $nn` (R132, R103). -/
def execLdyZp (d : Byte) (s : State) : Out := doLdy (opcodeRow 0xA4) (.zp d) s

/-- `AC` `LDY $nnnn` (R132, R106). -/
def execLdyAbs (w : Addr) (s : State) : Out := doLdy (opcodeRow 0xAC) (.abs w) s

/-- `B4` `LDY $nn,X` (R132, R104). -/
def execLdyZpx (d : Byte) (s : State) : Out := doLdy (opcodeRow 0xB4) (.zpx d) s

/-- `BC` `LDY $nnnn,X` (R132, R107). -/
def execLdyAbx (w : Addr) (s : State) : Out := doLdy (opcodeRow 0xBC) (.abx w) s

/-- `81` `STA ($nn,X)` (R133, R109). -/
def execStaIzx (d : Byte) (s : State) : Out := doSta (opcodeRow 0x81) (.izx d) s

/-- `85` `STA $nn` (R133, R103). -/
def execStaZp (d : Byte) (s : State) : Out := doSta (opcodeRow 0x85) (.zp d) s

/-- `8D` `STA $nnnn` (R133, R106). -/
def execStaAbs (w : Addr) (s : State) : Out := doSta (opcodeRow 0x8D) (.abs w) s

/-- `91` `STA ($nn),Y` (R133, R110). -/
def execStaIzy (d : Byte) (s : State) : Out := doSta (opcodeRow 0x91) (.izy d) s

/-- `95` `STA $nn,X` (R133, R104). -/
def execStaZpx (d : Byte) (s : State) : Out := doSta (opcodeRow 0x95) (.zpx d) s

/-- `99` `STA $nnnn,Y` (R133, R108). -/
def execStaAby (w : Addr) (s : State) : Out := doSta (opcodeRow 0x99) (.aby w) s

/-- `9D` `STA $nnnn,X` (R133, R107). -/
def execStaAbx (w : Addr) (s : State) : Out := doSta (opcodeRow 0x9D) (.abx w) s

/-- `86` `STX $nn` (R134, R103). -/
def execStxZp (d : Byte) (s : State) : Out := doStx (opcodeRow 0x86) (.zp d) s

/-- `8E` `STX $nnnn` (R134, R106). -/
def execStxAbs (w : Addr) (s : State) : Out := doStx (opcodeRow 0x8E) (.abs w) s

/-- `96` `STX $nn,Y` (R134, R105). -/
def execStxZpy (d : Byte) (s : State) : Out := doStx (opcodeRow 0x96) (.zpy d) s

/-- `84` `STY $nn` (R135, R103). -/
def execStyZp (d : Byte) (s : State) : Out := doSty (opcodeRow 0x84) (.zp d) s

/-- `8C` `STY $nnnn` (R135, R106). -/
def execStyAbs (w : Addr) (s : State) : Out := doSty (opcodeRow 0x8C) (.abs w) s

/-- `94` `STY $nn,X` (R135, R104). -/
def execStyZpx (d : Byte) (s : State) : Out := doSty (opcodeRow 0x94) (.zpx d) s

/-- `AA` `TAX` (R136, R100). -/
def execTax (s : State) : Out := doTax (opcodeRow 0xAA) .imp s

/-- `A8` `TAY` (R137, R100). -/
def execTay (s : State) : Out := doTay (opcodeRow 0xA8) .imp s

/-- `8A` `TXA` (R138, R100). -/
def execTxa (s : State) : Out := doTxa (opcodeRow 0x8A) .imp s

/-- `98` `TYA` (R139, R100). -/
def execTya (s : State) : Out := doTya (opcodeRow 0x98) .imp s

/-- `BA` `TSX` (R140, R100). -/
def execTsx (s : State) : Out := doTsx (opcodeRow 0xBA) .imp s

/-- `9A` `TXS` (R141, R100). -/
def execTxs (s : State) : Out := doTxs (opcodeRow 0x9A) .imp s

end Sys2Proof.Machine
end

