-- ==== Sys2Proof/Machine/Shift.lean ====
section
/-! DEFINITION. Shifts, rotates, increments and decrements: ASL LSR ROL ROR INC DEC INX INY DEX DEY (R170 to R180).
The shared operation of each mnemonic comes first, then the instructions, one definition per row of the opcode table. -/

namespace Sys2Proof.Machine

/-- The read-modify-write form of the shifts and rotates (R180): the result to its place, the bit shifted out to C, N and
Z from the result. -/
def shiftInPlace (r : Row) (op : Operand) (s : State) (q : Shifted) : Out :=
  complete r op s (((s.writeResult op q.value).setC q.carry).setNZ q.value)

/-- The read-modify-write form of INC and DEC (R180): the result to the same cell, N and Z from it. -/
def stepInPlace (r : Row) (op : Operand) (s : State) (v : Byte) : Out :=
  complete r op s ((s.write (effAddr op s) v).setNZ v)

/-- ASL (R170). -/
def doAsl (r : Row) (op : Operand) (s : State) : Out := shiftInPlace r op s (shiftLeft (operandByte op s))

/-- LSR (R171). -/
def doLsr (r : Row) (op : Operand) (s : State) : Out := shiftInPlace r op s (shiftRight (operandByte op s))

/-- ROL (R172). -/
def doRol (r : Row) (op : Operand) (s : State) : Out := shiftInPlace r op s (rotateLeft (operandByte op s) s.flagC)

/-- ROR (R173). -/
def doRor (r : Row) (op : Operand) (s : State) : Out := shiftInPlace r op s (rotateRight (operandByte op s) s.flagC)

/-- INC (R174). -/
def doInc (r : Row) (op : Operand) (s : State) : Out := stepInPlace r op s (s.read (effAddr op s) + 1)

/-- DEC (R175). -/
def doDec (r : Row) (op : Operand) (s : State) : Out := stepInPlace r op s (s.read (effAddr op s) - 1)

/-- INX (R176). -/
def doInx (r : Row) (op : Operand) (s : State) : Out := complete r op s (s.loadX (s.x + 1))

/-- INY (R177). -/
def doIny (r : Row) (op : Operand) (s : State) : Out := complete r op s (s.loadY (s.y + 1))

/-- DEX (R178). -/
def doDex (r : Row) (op : Operand) (s : State) : Out := complete r op s (s.loadX (s.x - 1))

/-- DEY (R179). -/
def doDey (r : Row) (op : Operand) (s : State) : Out := complete r op s (s.loadY (s.y - 1))

/-! ## The instructions -/

/-- `06` `ASL $nn` (R170, R103). -/
def execAslZp (d : Byte) (s : State) : Out := doAsl (opcodeRow 0x06) (.zp d) s

/-- `0A` `ASL A` (R170, R101). -/
def execAslAcc (s : State) : Out := doAsl (opcodeRow 0x0A) .acc s

/-- `0E` `ASL $nnnn` (R170, R106). -/
def execAslAbs (w : Addr) (s : State) : Out := doAsl (opcodeRow 0x0E) (.abs w) s

/-- `16` `ASL $nn,X` (R170, R104). -/
def execAslZpx (d : Byte) (s : State) : Out := doAsl (opcodeRow 0x16) (.zpx d) s

/-- `1E` `ASL $nnnn,X` (R170, R107). -/
def execAslAbx (w : Addr) (s : State) : Out := doAsl (opcodeRow 0x1E) (.abx w) s

/-- `46` `LSR $nn` (R171, R103). -/
def execLsrZp (d : Byte) (s : State) : Out := doLsr (opcodeRow 0x46) (.zp d) s

/-- `4A` `LSR A` (R171, R101). -/
def execLsrAcc (s : State) : Out := doLsr (opcodeRow 0x4A) .acc s

/-- `4E` `LSR $nnnn` (R171, R106). -/
def execLsrAbs (w : Addr) (s : State) : Out := doLsr (opcodeRow 0x4E) (.abs w) s

/-- `56` `LSR $nn,X` (R171, R104). -/
def execLsrZpx (d : Byte) (s : State) : Out := doLsr (opcodeRow 0x56) (.zpx d) s

/-- `5E` `LSR $nnnn,X` (R171, R107). -/
def execLsrAbx (w : Addr) (s : State) : Out := doLsr (opcodeRow 0x5E) (.abx w) s

/-- `26` `ROL $nn` (R172, R103). -/
def execRolZp (d : Byte) (s : State) : Out := doRol (opcodeRow 0x26) (.zp d) s

/-- `2A` `ROL A` (R172, R101). -/
def execRolAcc (s : State) : Out := doRol (opcodeRow 0x2A) .acc s

/-- `2E` `ROL $nnnn` (R172, R106). -/
def execRolAbs (w : Addr) (s : State) : Out := doRol (opcodeRow 0x2E) (.abs w) s

/-- `36` `ROL $nn,X` (R172, R104). -/
def execRolZpx (d : Byte) (s : State) : Out := doRol (opcodeRow 0x36) (.zpx d) s

/-- `3E` `ROL $nnnn,X` (R172, R107). -/
def execRolAbx (w : Addr) (s : State) : Out := doRol (opcodeRow 0x3E) (.abx w) s

/-- `66` `ROR $nn` (R173, R103). -/
def execRorZp (d : Byte) (s : State) : Out := doRor (opcodeRow 0x66) (.zp d) s

/-- `6A` `ROR A` (R173, R101). -/
def execRorAcc (s : State) : Out := doRor (opcodeRow 0x6A) .acc s

/-- `6E` `ROR $nnnn` (R173, R106). -/
def execRorAbs (w : Addr) (s : State) : Out := doRor (opcodeRow 0x6E) (.abs w) s

/-- `76` `ROR $nn,X` (R173, R104). -/
def execRorZpx (d : Byte) (s : State) : Out := doRor (opcodeRow 0x76) (.zpx d) s

/-- `7E` `ROR $nnnn,X` (R173, R107). -/
def execRorAbx (w : Addr) (s : State) : Out := doRor (opcodeRow 0x7E) (.abx w) s

/-- `E6` `INC $nn` (R174, R103). -/
def execIncZp (d : Byte) (s : State) : Out := doInc (opcodeRow 0xE6) (.zp d) s

/-- `EE` `INC $nnnn` (R174, R106). -/
def execIncAbs (w : Addr) (s : State) : Out := doInc (opcodeRow 0xEE) (.abs w) s

/-- `F6` `INC $nn,X` (R174, R104). -/
def execIncZpx (d : Byte) (s : State) : Out := doInc (opcodeRow 0xF6) (.zpx d) s

/-- `FE` `INC $nnnn,X` (R174, R107). -/
def execIncAbx (w : Addr) (s : State) : Out := doInc (opcodeRow 0xFE) (.abx w) s

/-- `C6` `DEC $nn` (R175, R103). -/
def execDecZp (d : Byte) (s : State) : Out := doDec (opcodeRow 0xC6) (.zp d) s

/-- `CE` `DEC $nnnn` (R175, R106). -/
def execDecAbs (w : Addr) (s : State) : Out := doDec (opcodeRow 0xCE) (.abs w) s

/-- `D6` `DEC $nn,X` (R175, R104). -/
def execDecZpx (d : Byte) (s : State) : Out := doDec (opcodeRow 0xD6) (.zpx d) s

/-- `DE` `DEC $nnnn,X` (R175, R107). -/
def execDecAbx (w : Addr) (s : State) : Out := doDec (opcodeRow 0xDE) (.abx w) s

/-- `E8` `INX` (R176, R100). -/
def execInx (s : State) : Out := doInx (opcodeRow 0xE8) .imp s

/-- `C8` `INY` (R177, R100). -/
def execIny (s : State) : Out := doIny (opcodeRow 0xC8) .imp s

/-- `CA` `DEX` (R178, R100). -/
def execDex (s : State) : Out := doDex (opcodeRow 0xCA) .imp s

/-- `88` `DEY` (R179, R100). -/
def execDey (s : State) : Out := doDey (opcodeRow 0x88) .imp s

end Sys2Proof.Machine
end

