-- ==== Sys2Proof/Machine/Stack.lean ====
section
/-! DEFINITION. Stack and flag instructions: PHA PHP PLA PLP CLC SEC CLI SEI CLD SED CLV (R210 to R220).
The shared operation of each mnemonic comes first, then the instructions, one definition per row of the opcode table. -/

namespace Sys2Proof.Machine

/-- PHA: `push(A)` (R210). -/
def doPha (r : Row) (op : Operand) (s : State) : Out := complete r op s (s.push s.a)

/-- PHP: `push(P8(1))` (R211). -/
def doPhp (r : Row) (op : Operand) (s : State) : Out := complete r op s (s.push (s.statusImage true))

/-- PLA: `A <- setNZ(pull())` (R212). -/
def doPla (r : Row) (op : Operand) (s : State) : Out := complete r op s (s.pop.loadA s.pulled)

/-- PLP: `setP(pull())` (R213). -/
def doPlp (r : Row) (op : Operand) (s : State) : Out := complete r op s (s.pop.setStatus s.pulled)

/-- CLC: `C <- 0` (R214). -/
def doClc (r : Row) (op : Operand) (s : State) : Out := complete r op s (s.setC false)

/-- SEC: `C <- 1` (R215). -/
def doSec (r : Row) (op : Operand) (s : State) : Out := complete r op s (s.setC true)

/-- CLI: `I <- 0` (R216). -/
def doCli (r : Row) (op : Operand) (s : State) : Out := complete r op s (s.setI false)

/-- SEI: `I <- 1` (R217). -/
def doSei (r : Row) (op : Operand) (s : State) : Out := complete r op s (s.setI true)

/-- CLD: `D <- 0`, whatever DECIMAL_ENABLED (R218). -/
def doCld (r : Row) (op : Operand) (s : State) : Out := complete r op s (s.setD false)

/-- SED: `D <- 1`, whatever DECIMAL_ENABLED (R219). -/
def doSed (r : Row) (op : Operand) (s : State) : Out := complete r op s (s.setD true)

/-- CLV: `V <- 0` (R220). -/
def doClv (r : Row) (op : Operand) (s : State) : Out := complete r op s (s.setV false)

/-! ## The instructions -/

/-- `48` `PHA` (R210, R100). -/
def execPha (s : State) : Out := doPha (opcodeRow 0x48) .imp s

/-- `08` `PHP` (R211, R100). -/
def execPhp (s : State) : Out := doPhp (opcodeRow 0x08) .imp s

/-- `68` `PLA` (R212, R100). -/
def execPla (s : State) : Out := doPla (opcodeRow 0x68) .imp s

/-- `28` `PLP` (R213, R100). -/
def execPlp (s : State) : Out := doPlp (opcodeRow 0x28) .imp s

/-- `18` `CLC` (R214, R100). -/
def execClc (s : State) : Out := doClc (opcodeRow 0x18) .imp s

/-- `38` `SEC` (R215, R100). -/
def execSec (s : State) : Out := doSec (opcodeRow 0x38) .imp s

/-- `58` `CLI` (R216, R100). -/
def execCli (s : State) : Out := doCli (opcodeRow 0x58) .imp s

/-- `78` `SEI` (R217, R100). -/
def execSei (s : State) : Out := doSei (opcodeRow 0x78) .imp s

/-- `D8` `CLD` (R218, R100). -/
def execCld (s : State) : Out := doCld (opcodeRow 0xD8) .imp s

/-- `F8` `SED` (R219, R100). -/
def execSed (s : State) : Out := doSed (opcodeRow 0xF8) .imp s

/-- `B8` `CLV` (R220, R100). -/
def execClv (s : State) : Out := doClv (opcodeRow 0xB8) .imp s

end Sys2Proof.Machine
end

