-- ==== Sys2Proof/Machine/System.lean ====
section
/-! DEFINITION. System instructions: BRK, RTI and NOP (R230 to R233), and the undocumented NOPs (R257).
The shared operation of each mnemonic comes first, then the instructions, one definition per row of the opcode table. -/

namespace Sys2Proof.Machine

/-- BRK: the trap, with the return address `pc0 + 2`, B = 1 in the pushed image, and the vector at `0xFFFE` (R230, R302,
R306). -/
def doBrk (r : Row) (_ : Operand) (s : State) : Out :=
  .next ((s.enterTrap (s.pc + 2) true irqVector).addCycles r.cycles)

/-- RTI: the return from a trap, with no one added to the address (R231, R307). -/
def doRti (r : Row) (_ : Operand) (s : State) : Out := .next (s.leaveTrap.addCycles r.cycles)

/-- NOP, documented and undocumented: it resolves its mode, discards the operand, and changes nothing but PC and the cycle
counter (R232, R257). -/
def doNop (r : Row) (op : Operand) (s : State) : Out := complete r op s s

/-! ## The instructions -/

/-- `00` `BRK` (R230, R100). -/
def execBrk (s : State) : Out := doBrk (opcodeRow 0x00) .imp s

/-- `40` `RTI` (R231, R100). -/
def execRti (s : State) : Out := doRti (opcodeRow 0x40) .imp s

/-- `04` `NOP $nn` (R257, R103). -/
def execNopZp04 (d : Byte) (s : State) : Out := doNop (opcodeRow 0x04) (.zp d) s

/-- `0C` `NOP $nnnn` (R257, R106). -/
def execNopAbs (w : Addr) (s : State) : Out := doNop (opcodeRow 0x0C) (.abs w) s

/-- `14` `NOP $nn,X` (R257, R104). -/
def execNopZpx14 (d : Byte) (s : State) : Out := doNop (opcodeRow 0x14) (.zpx d) s

/-- `1A` `NOP` (R257, R100). -/
def execNop1A (s : State) : Out := doNop (opcodeRow 0x1A) .imp s

/-- `1C` `NOP $nnnn,X` (R257, R107). -/
def execNopAbx1C (w : Addr) (s : State) : Out := doNop (opcodeRow 0x1C) (.abx w) s

/-- `34` `NOP $nn,X` (R257, R104). -/
def execNopZpx34 (d : Byte) (s : State) : Out := doNop (opcodeRow 0x34) (.zpx d) s

/-- `3A` `NOP` (R257, R100). -/
def execNop3A (s : State) : Out := doNop (opcodeRow 0x3A) .imp s

/-- `3C` `NOP $nnnn,X` (R257, R107). -/
def execNopAbx3C (w : Addr) (s : State) : Out := doNop (opcodeRow 0x3C) (.abx w) s

/-- `44` `NOP $nn` (R257, R103). -/
def execNopZp44 (d : Byte) (s : State) : Out := doNop (opcodeRow 0x44) (.zp d) s

/-- `54` `NOP $nn,X` (R257, R104). -/
def execNopZpx54 (d : Byte) (s : State) : Out := doNop (opcodeRow 0x54) (.zpx d) s

/-- `5A` `NOP` (R257, R100). -/
def execNop5A (s : State) : Out := doNop (opcodeRow 0x5A) .imp s

/-- `5C` `NOP $nnnn,X` (R257, R107). -/
def execNopAbx5C (w : Addr) (s : State) : Out := doNop (opcodeRow 0x5C) (.abx w) s

/-- `64` `NOP $nn` (R257, R103). -/
def execNopZp64 (d : Byte) (s : State) : Out := doNop (opcodeRow 0x64) (.zp d) s

/-- `74` `NOP $nn,X` (R257, R104). -/
def execNopZpx74 (d : Byte) (s : State) : Out := doNop (opcodeRow 0x74) (.zpx d) s

/-- `7A` `NOP` (R257, R100). -/
def execNop7A (s : State) : Out := doNop (opcodeRow 0x7A) .imp s

/-- `7C` `NOP $nnnn,X` (R257, R107). -/
def execNopAbx7C (w : Addr) (s : State) : Out := doNop (opcodeRow 0x7C) (.abx w) s

/-- `80` `NOP #$nn` (R257, R102). -/
def execNopImm80 (d : Byte) (s : State) : Out := doNop (opcodeRow 0x80) (.imm d) s

/-- `82` `NOP #$nn` (R257, R102). -/
def execNopImm82 (d : Byte) (s : State) : Out := doNop (opcodeRow 0x82) (.imm d) s

/-- `89` `NOP #$nn` (R257, R102). -/
def execNopImm89 (d : Byte) (s : State) : Out := doNop (opcodeRow 0x89) (.imm d) s

/-- `C2` `NOP #$nn` (R257, R102). -/
def execNopImmC2 (d : Byte) (s : State) : Out := doNop (opcodeRow 0xC2) (.imm d) s

/-- `D4` `NOP $nn,X` (R257, R104). -/
def execNopZpxD4 (d : Byte) (s : State) : Out := doNop (opcodeRow 0xD4) (.zpx d) s

/-- `DA` `NOP` (R257, R100). -/
def execNopDA (s : State) : Out := doNop (opcodeRow 0xDA) .imp s

/-- `DC` `NOP $nnnn,X` (R257, R107). -/
def execNopAbxDC (w : Addr) (s : State) : Out := doNop (opcodeRow 0xDC) (.abx w) s

/-- `E2` `NOP #$nn` (R257, R102). -/
def execNopImmE2 (d : Byte) (s : State) : Out := doNop (opcodeRow 0xE2) (.imm d) s

/-- `EA` `NOP` (R232, R100). -/
def execNop (s : State) : Out := doNop (opcodeRow 0xEA) .imp s

/-- `F4` `NOP $nn,X` (R257, R104). -/
def execNopZpxF4 (d : Byte) (s : State) : Out := doNop (opcodeRow 0xF4) (.zpx d) s

/-- `FA` `NOP` (R257, R100). -/
def execNopFA (s : State) : Out := doNop (opcodeRow 0xFA) .imp s

/-- `FC` `NOP $nnnn,X` (R257, R107). -/
def execNopAbxFC (w : Addr) (s : State) : Out := doNop (opcodeRow 0xFC) (.abx w) s

end Sys2Proof.Machine
end

