-- ==== Sys2Proof/Machine/Undocumented.lean ====
section
/-! DEFINITION. The undocumented opcodes other than the unstable stores and the NOPs: SLO RLA SRE RRA DCP ISC SAX LAX ANC ALR ARR SBX
USBC LAS ANE LXA JAM (R240 to R258). In `skip` mode each is a no-op of the same length and cost (R240).
The shared operation of each mnemonic comes first, then the instructions, one definition per row of the opcode table. -/

namespace Sys2Proof.Machine

/-- SLO: ASL on memory, then ORA (R241). -/
def doSlo (r : Row) (op : Operand) (s : State) : Out :=
  let q := shiftLeft (operandByte op s)
  undocumented r op s (complete r op s (((s.write (effAddr op s) q.value).setC q.carry).loadA (s.a ||| q.value)))

/-- RLA: ROL on memory, then AND (R242). -/
def doRla (r : Row) (op : Operand) (s : State) : Out :=
  let q := rotateLeft (operandByte op s) s.flagC
  undocumented r op s (complete r op s (((s.write (effAddr op s) q.value).setC q.carry).loadA (s.a &&& q.value)))

/-- SRE: LSR on memory, then EOR (R243). -/
def doSre (r : Row) (op : Operand) (s : State) : Out :=
  let q := shiftRight (operandByte op s)
  undocumented r op s (complete r op s (((s.write (effAddr op s) q.value).setC q.carry).loadA (s.a ^^^ q.value)))

/-- RRA: ROR on memory, then ADC with the carry the rotate left (R244). -/
def doRra (r : Row) (op : Operand) (s : State) : Out :=
  let q := rotateRight (operandByte op s) s.flagC
  undocumented r op s (complete r op s (((s.write (effAddr op s) q.value).setC q.carry).add q.value))

/-- DCP: DEC on memory, then CMP (R245). -/
def doDcp (r : Row) (op : Operand) (s : State) : Out :=
  let v := operandByte op s - 1
  undocumented r op s (complete r op s ((s.write (effAddr op s) v).compare s.a v))

/-- ISC: INC on memory, then SBC (R246). -/
def doIsc (r : Row) (op : Operand) (s : State) : Out :=
  let v := operandByte op s + 1
  undocumented r op s (complete r op s ((s.write (effAddr op s) v).sub v))

/-- SAX: store `A and X`; no flag (R247). -/
def doSax (r : Row) (op : Operand) (s : State) : Out :=
  undocumented r op s (complete r op s (s.write (effAddr op s) (s.a &&& s.x)))

/-- LAX: load A and X with the same byte (R248). -/
def doLax (r : Row) (op : Operand) (s : State) : Out :=
  let m := operandByte op s
  undocumented r op s (complete r op s ((s.loadA m).setX m))

/-- ANC: AND, then N copied into C (R249). -/
def doAnc (r : Row) (op : Operand) (s : State) : Out :=
  let t := s.a &&& operandByte op s
  undocumented r op s (complete r op s ((s.loadA t).setC t.msb))

/-- ALR: AND, then LSR A (R250). -/
def doAlr (r : Row) (op : Operand) (s : State) : Out :=
  let q := shiftRight (s.a &&& operandByte op s)
  undocumented r op s (complete r op s ((s.setC q.carry).loadA q.value))

/-- ARR: AND, then ROR A, with flags taken from inside the adder (R251). -/
def doArr (r : Row) (op : Operand) (s : State) : Out :=
  undocumented r op s
    (complete r op s (s.putSum (arrResult s.decimalMode (s.a &&& operandByte op s) s.flagC)))

/-- SBX: `X <- (A and X) - M` as a compare (R252). -/
def doSbx (r : Row) (op : Operand) (s : State) : Out :=
  let t := s.a &&& s.x
  let m := operandByte op s
  undocumented r op s (complete r op s ((s.compare t m).setX (t - m)))

/-- USBC: a duplicate of SBC immediate (R253). -/
def doUsbc (r : Row) (op : Operand) (s : State) : Out :=
  undocumented r op s (complete r op s (s.sub (operandByte op s)))

/-- LAS: `M and S` into A, X and S (R254). -/
def doLas (r : Row) (op : Operand) (s : State) : Out :=
  let v := operandByte op s &&& s.sp
  undocumented r op s (complete r op s (((s.loadA v).setX v).setSp v))

/-- ANE: `A <- setNZ((A or ANE_MAGIC) and X and M)`, with the unknown constant of the chip (R255, assumption log 6). -/
def doAne (r : Row) (op : Operand) (s : State) : Out :=
  undocumented r op s (complete r op s (s.loadA ((s.a ||| Config.aneMagic) &&& s.x &&& operandByte op s)))

/-- LXA: `A <- setNZ((A or LXA_MAGIC) and M); X <- A`, with the unknown constant of the chip (R256, assumption log 7). -/
def doLxa (r : Row) (op : Operand) (s : State) : Out :=
  let v := (s.a ||| Config.lxaMagic) &&& operandByte op s
  undocumented r op s (complete r op s ((s.loadA v).setX v))

/-- JAM: the lock-up as an instruction that transfers control to itself, 2 cycles each time (R258). -/
def doJam (r : Row) (op : Operand) (s : State) : Out :=
  undocumented r op s (.next (s.addCycles r.cycles))

/-! ## The instructions -/

/-- `03` `SLO ($nn,X)` (R241, R109). -/
def execSloIzx (d : Byte) (s : State) : Out := doSlo (opcodeRow 0x03) (.izx d) s

/-- `07` `SLO $nn` (R241, R103). -/
def execSloZp (d : Byte) (s : State) : Out := doSlo (opcodeRow 0x07) (.zp d) s

/-- `0F` `SLO $nnnn` (R241, R106). -/
def execSloAbs (w : Addr) (s : State) : Out := doSlo (opcodeRow 0x0F) (.abs w) s

/-- `13` `SLO ($nn),Y` (R241, R110). -/
def execSloIzy (d : Byte) (s : State) : Out := doSlo (opcodeRow 0x13) (.izy d) s

/-- `17` `SLO $nn,X` (R241, R104). -/
def execSloZpx (d : Byte) (s : State) : Out := doSlo (opcodeRow 0x17) (.zpx d) s

/-- `1B` `SLO $nnnn,Y` (R241, R108). -/
def execSloAby (w : Addr) (s : State) : Out := doSlo (opcodeRow 0x1B) (.aby w) s

/-- `1F` `SLO $nnnn,X` (R241, R107). -/
def execSloAbx (w : Addr) (s : State) : Out := doSlo (opcodeRow 0x1F) (.abx w) s

/-- `23` `RLA ($nn,X)` (R242, R109). -/
def execRlaIzx (d : Byte) (s : State) : Out := doRla (opcodeRow 0x23) (.izx d) s

/-- `27` `RLA $nn` (R242, R103). -/
def execRlaZp (d : Byte) (s : State) : Out := doRla (opcodeRow 0x27) (.zp d) s

/-- `2F` `RLA $nnnn` (R242, R106). -/
def execRlaAbs (w : Addr) (s : State) : Out := doRla (opcodeRow 0x2F) (.abs w) s

/-- `33` `RLA ($nn),Y` (R242, R110). -/
def execRlaIzy (d : Byte) (s : State) : Out := doRla (opcodeRow 0x33) (.izy d) s

/-- `37` `RLA $nn,X` (R242, R104). -/
def execRlaZpx (d : Byte) (s : State) : Out := doRla (opcodeRow 0x37) (.zpx d) s

/-- `3B` `RLA $nnnn,Y` (R242, R108). -/
def execRlaAby (w : Addr) (s : State) : Out := doRla (opcodeRow 0x3B) (.aby w) s

/-- `3F` `RLA $nnnn,X` (R242, R107). -/
def execRlaAbx (w : Addr) (s : State) : Out := doRla (opcodeRow 0x3F) (.abx w) s

/-- `43` `SRE ($nn,X)` (R243, R109). -/
def execSreIzx (d : Byte) (s : State) : Out := doSre (opcodeRow 0x43) (.izx d) s

/-- `47` `SRE $nn` (R243, R103). -/
def execSreZp (d : Byte) (s : State) : Out := doSre (opcodeRow 0x47) (.zp d) s

/-- `4F` `SRE $nnnn` (R243, R106). -/
def execSreAbs (w : Addr) (s : State) : Out := doSre (opcodeRow 0x4F) (.abs w) s

/-- `53` `SRE ($nn),Y` (R243, R110). -/
def execSreIzy (d : Byte) (s : State) : Out := doSre (opcodeRow 0x53) (.izy d) s

/-- `57` `SRE $nn,X` (R243, R104). -/
def execSreZpx (d : Byte) (s : State) : Out := doSre (opcodeRow 0x57) (.zpx d) s

/-- `5B` `SRE $nnnn,Y` (R243, R108). -/
def execSreAby (w : Addr) (s : State) : Out := doSre (opcodeRow 0x5B) (.aby w) s

/-- `5F` `SRE $nnnn,X` (R243, R107). -/
def execSreAbx (w : Addr) (s : State) : Out := doSre (opcodeRow 0x5F) (.abx w) s

/-- `63` `RRA ($nn,X)` (R244, R109). -/
def execRraIzx (d : Byte) (s : State) : Out := doRra (opcodeRow 0x63) (.izx d) s

/-- `67` `RRA $nn` (R244, R103). -/
def execRraZp (d : Byte) (s : State) : Out := doRra (opcodeRow 0x67) (.zp d) s

/-- `6F` `RRA $nnnn` (R244, R106). -/
def execRraAbs (w : Addr) (s : State) : Out := doRra (opcodeRow 0x6F) (.abs w) s

/-- `73` `RRA ($nn),Y` (R244, R110). -/
def execRraIzy (d : Byte) (s : State) : Out := doRra (opcodeRow 0x73) (.izy d) s

/-- `77` `RRA $nn,X` (R244, R104). -/
def execRraZpx (d : Byte) (s : State) : Out := doRra (opcodeRow 0x77) (.zpx d) s

/-- `7B` `RRA $nnnn,Y` (R244, R108). -/
def execRraAby (w : Addr) (s : State) : Out := doRra (opcodeRow 0x7B) (.aby w) s

/-- `7F` `RRA $nnnn,X` (R244, R107). -/
def execRraAbx (w : Addr) (s : State) : Out := doRra (opcodeRow 0x7F) (.abx w) s

/-- `C3` `DCP ($nn,X)` (R245, R109). -/
def execDcpIzx (d : Byte) (s : State) : Out := doDcp (opcodeRow 0xC3) (.izx d) s

/-- `C7` `DCP $nn` (R245, R103). -/
def execDcpZp (d : Byte) (s : State) : Out := doDcp (opcodeRow 0xC7) (.zp d) s

/-- `CF` `DCP $nnnn` (R245, R106). -/
def execDcpAbs (w : Addr) (s : State) : Out := doDcp (opcodeRow 0xCF) (.abs w) s

/-- `D3` `DCP ($nn),Y` (R245, R110). -/
def execDcpIzy (d : Byte) (s : State) : Out := doDcp (opcodeRow 0xD3) (.izy d) s

/-- `D7` `DCP $nn,X` (R245, R104). -/
def execDcpZpx (d : Byte) (s : State) : Out := doDcp (opcodeRow 0xD7) (.zpx d) s

/-- `DB` `DCP $nnnn,Y` (R245, R108). -/
def execDcpAby (w : Addr) (s : State) : Out := doDcp (opcodeRow 0xDB) (.aby w) s

/-- `DF` `DCP $nnnn,X` (R245, R107). -/
def execDcpAbx (w : Addr) (s : State) : Out := doDcp (opcodeRow 0xDF) (.abx w) s

/-- `E3` `ISC ($nn,X)` (R246, R109). -/
def execIscIzx (d : Byte) (s : State) : Out := doIsc (opcodeRow 0xE3) (.izx d) s

/-- `E7` `ISC $nn` (R246, R103). -/
def execIscZp (d : Byte) (s : State) : Out := doIsc (opcodeRow 0xE7) (.zp d) s

/-- `EF` `ISC $nnnn` (R246, R106). -/
def execIscAbs (w : Addr) (s : State) : Out := doIsc (opcodeRow 0xEF) (.abs w) s

/-- `F3` `ISC ($nn),Y` (R246, R110). -/
def execIscIzy (d : Byte) (s : State) : Out := doIsc (opcodeRow 0xF3) (.izy d) s

/-- `F7` `ISC $nn,X` (R246, R104). -/
def execIscZpx (d : Byte) (s : State) : Out := doIsc (opcodeRow 0xF7) (.zpx d) s

/-- `FB` `ISC $nnnn,Y` (R246, R108). -/
def execIscAby (w : Addr) (s : State) : Out := doIsc (opcodeRow 0xFB) (.aby w) s

/-- `FF` `ISC $nnnn,X` (R246, R107). -/
def execIscAbx (w : Addr) (s : State) : Out := doIsc (opcodeRow 0xFF) (.abx w) s

/-- `83` `SAX ($nn,X)` (R247, R109). -/
def execSaxIzx (d : Byte) (s : State) : Out := doSax (opcodeRow 0x83) (.izx d) s

/-- `87` `SAX $nn` (R247, R103). -/
def execSaxZp (d : Byte) (s : State) : Out := doSax (opcodeRow 0x87) (.zp d) s

/-- `8F` `SAX $nnnn` (R247, R106). -/
def execSaxAbs (w : Addr) (s : State) : Out := doSax (opcodeRow 0x8F) (.abs w) s

/-- `97` `SAX $nn,Y` (R247, R105). -/
def execSaxZpy (d : Byte) (s : State) : Out := doSax (opcodeRow 0x97) (.zpy d) s

/-- `A3` `LAX ($nn,X)` (R248, R109). -/
def execLaxIzx (d : Byte) (s : State) : Out := doLax (opcodeRow 0xA3) (.izx d) s

/-- `A7` `LAX $nn` (R248, R103). -/
def execLaxZp (d : Byte) (s : State) : Out := doLax (opcodeRow 0xA7) (.zp d) s

/-- `AF` `LAX $nnnn` (R248, R106). -/
def execLaxAbs (w : Addr) (s : State) : Out := doLax (opcodeRow 0xAF) (.abs w) s

/-- `B3` `LAX ($nn),Y` (R248, R110). -/
def execLaxIzy (d : Byte) (s : State) : Out := doLax (opcodeRow 0xB3) (.izy d) s

/-- `B7` `LAX $nn,Y` (R248, R105). -/
def execLaxZpy (d : Byte) (s : State) : Out := doLax (opcodeRow 0xB7) (.zpy d) s

/-- `BF` `LAX $nnnn,Y` (R248, R108). -/
def execLaxAby (w : Addr) (s : State) : Out := doLax (opcodeRow 0xBF) (.aby w) s

/-- `0B` `ANC #$nn` (R249, R102). -/
def execAncImm0B (d : Byte) (s : State) : Out := doAnc (opcodeRow 0x0B) (.imm d) s

/-- `2B` `ANC #$nn` (R249, R102). -/
def execAncImm2B (d : Byte) (s : State) : Out := doAnc (opcodeRow 0x2B) (.imm d) s

/-- `4B` `ALR #$nn` (R250, R102). -/
def execAlrImm (d : Byte) (s : State) : Out := doAlr (opcodeRow 0x4B) (.imm d) s

/-- `6B` `ARR #$nn` (R251, R102). -/
def execArrImm (d : Byte) (s : State) : Out := doArr (opcodeRow 0x6B) (.imm d) s

/-- `CB` `SBX #$nn` (R252, R102). -/
def execSbxImm (d : Byte) (s : State) : Out := doSbx (opcodeRow 0xCB) (.imm d) s

/-- `EB` `USBC #$nn` (R253, R102). -/
def execUsbcImm (d : Byte) (s : State) : Out := doUsbc (opcodeRow 0xEB) (.imm d) s

/-- `BB` `LAS $nnnn,Y` (R254, R108). -/
def execLasAby (w : Addr) (s : State) : Out := doLas (opcodeRow 0xBB) (.aby w) s

/-- `8B` `ANE #$nn` (R255, R102). -/
def execAneImm (d : Byte) (s : State) : Out := doAne (opcodeRow 0x8B) (.imm d) s

/-- `AB` `LXA #$nn` (R256, R102). -/
def execLxaImm (d : Byte) (s : State) : Out := doLxa (opcodeRow 0xAB) (.imm d) s

/-- `02` `JAM` (R258, R100). -/
def execJam02 (s : State) : Out := doJam (opcodeRow 0x02) .imp s

/-- `12` `JAM` (R258, R100). -/
def execJam12 (s : State) : Out := doJam (opcodeRow 0x12) .imp s

/-- `22` `JAM` (R258, R100). -/
def execJam22 (s : State) : Out := doJam (opcodeRow 0x22) .imp s

/-- `32` `JAM` (R258, R100). -/
def execJam32 (s : State) : Out := doJam (opcodeRow 0x32) .imp s

/-- `42` `JAM` (R258, R100). -/
def execJam42 (s : State) : Out := doJam (opcodeRow 0x42) .imp s

/-- `52` `JAM` (R258, R100). -/
def execJam52 (s : State) : Out := doJam (opcodeRow 0x52) .imp s

/-- `62` `JAM` (R258, R100). -/
def execJam62 (s : State) : Out := doJam (opcodeRow 0x62) .imp s

/-- `72` `JAM` (R258, R100). -/
def execJam72 (s : State) : Out := doJam (opcodeRow 0x72) .imp s

/-- `92` `JAM` (R258, R100). -/
def execJam92 (s : State) : Out := doJam (opcodeRow 0x92) .imp s

/-- `B2` `JAM` (R258, R100). -/
def execJamB2 (s : State) : Out := doJam (opcodeRow 0xB2) .imp s

/-- `D2` `JAM` (R258, R100). -/
def execJamD2 (s : State) : Out := doJam (opcodeRow 0xD2) .imp s

/-- `F2` `JAM` (R258, R100). -/
def execJamF2 (s : State) : Out := doJam (opcodeRow 0xF2) .imp s

end Sys2Proof.Machine
end

