-- ==== Sys2Proof/Machine/Unstable.lean ====
section
/-! DEFINITION. The unstable store opcodes SHA SHX SHY TAS (R280 to R290). They are the same in every variant (R288).
The shared operation of each mnemonic comes first, then the instructions, one definition per row of the opcode table. -/

namespace Sys2Proof.Machine

/-- The latched high byte (R281): the intended high byte when the page is crossed, else that plus one modulo 256. -/
def latchedByte (op : Operand) (s : State) : Byte :=
  if pageCrossed op s then page (effAddr op s) else page (effAddr op s) + 1

/-- The one store of an unstable store: `reg and latched` at the intended effective address (R280, R283). -/
def unstableStore (r : Row) (op : Operand) (s t : State) (reg : Byte) : Out :=
  complete r op s (t.write (effAddr op s) (reg &&& latchedByte op s))

/-- SHA: store `A and X and latched` (R284). -/
def doSha (r : Row) (op : Operand) (s : State) : Out := unstableStore r op s s (s.a &&& s.x)

/-- SHX: store `X and latched` (R285). -/
def doShx (r : Row) (op : Operand) (s : State) : Out := unstableStore r op s s s.x

/-- SHY: store `Y and latched` (R286). -/
def doShy (r : Row) (op : Operand) (s : State) : Out := unstableStore r op s s s.y

/-- TAS: `S <- A and X`, then store the new `S and latched` (R287). -/
def doTas (r : Row) (op : Operand) (s : State) : Out := unstableStore r op s (s.setSp (s.a &&& s.x)) (s.a &&& s.x)

/-! ## The instructions -/

/-- `93` `SHA ($nn),Y` (R284, R110). -/
def execShaIzy (d : Byte) (s : State) : Out := doSha (opcodeRow 0x93) (.izy d) s

/-- `9F` `SHA $nnnn,Y` (R284, R108). -/
def execShaAby (w : Addr) (s : State) : Out := doSha (opcodeRow 0x9F) (.aby w) s

/-- `9E` `SHX $nnnn,Y` (R285, R108). -/
def execShxAby (w : Addr) (s : State) : Out := doShx (opcodeRow 0x9E) (.aby w) s

/-- `9C` `SHY $nnnn,X` (R286, R107). -/
def execShyAbx (w : Addr) (s : State) : Out := doShy (opcodeRow 0x9C) (.abx w) s

/-- `9B` `TAS $nnnn,Y` (R287, R108). -/
def execTasAby (w : Addr) (s : State) : Out := doTas (opcodeRow 0x9B) (.aby w) s

end Sys2Proof.Machine
end

