-- ==== Sys2Proof/Machine/Dispatch.lean ====
section
/-! DEFINITION. The dispatch: one arm per constructor of `Instr`, each one call of that instruction's meaning (R84). -/

namespace Sys2Proof.Machine

def exec (i : Instr) (s : State) : Host.Outcome State Fault Refusal :=
  match i with
  | .brk => Sys2Proof.Machine.execBrk s
  | .oraIzx d => Sys2Proof.Machine.execOraIzx d s
  | .jam02 => Sys2Proof.Machine.execJam02 s
  | .sloIzx d => Sys2Proof.Machine.execSloIzx d s
  | .nopZp04 d => Sys2Proof.Machine.execNopZp04 d s
  | .oraZp d => Sys2Proof.Machine.execOraZp d s
  | .aslZp d => Sys2Proof.Machine.execAslZp d s
  | .sloZp d => Sys2Proof.Machine.execSloZp d s
  | .php => Sys2Proof.Machine.execPhp s
  | .oraImm d => Sys2Proof.Machine.execOraImm d s
  | .aslAcc => Sys2Proof.Machine.execAslAcc s
  | .ancImm0B d => Sys2Proof.Machine.execAncImm0B d s
  | .nopAbs w => Sys2Proof.Machine.execNopAbs w s
  | .oraAbs w => Sys2Proof.Machine.execOraAbs w s
  | .aslAbs w => Sys2Proof.Machine.execAslAbs w s
  | .sloAbs w => Sys2Proof.Machine.execSloAbs w s
  | .bpl d => Sys2Proof.Machine.execBpl d s
  | .oraIzy d => Sys2Proof.Machine.execOraIzy d s
  | .jam12 => Sys2Proof.Machine.execJam12 s
  | .sloIzy d => Sys2Proof.Machine.execSloIzy d s
  | .nopZpx14 d => Sys2Proof.Machine.execNopZpx14 d s
  | .oraZpx d => Sys2Proof.Machine.execOraZpx d s
  | .aslZpx d => Sys2Proof.Machine.execAslZpx d s
  | .sloZpx d => Sys2Proof.Machine.execSloZpx d s
  | .clc => Sys2Proof.Machine.execClc s
  | .oraAby w => Sys2Proof.Machine.execOraAby w s
  | .nop1A => Sys2Proof.Machine.execNop1A s
  | .sloAby w => Sys2Proof.Machine.execSloAby w s
  | .nopAbx1C w => Sys2Proof.Machine.execNopAbx1C w s
  | .oraAbx w => Sys2Proof.Machine.execOraAbx w s
  | .aslAbx w => Sys2Proof.Machine.execAslAbx w s
  | .sloAbx w => Sys2Proof.Machine.execSloAbx w s
  | .jsrAbs w => Sys2Proof.Machine.execJsrAbs w s
  | .andIzx d => Sys2Proof.Machine.execAndIzx d s
  | .jam22 => Sys2Proof.Machine.execJam22 s
  | .rlaIzx d => Sys2Proof.Machine.execRlaIzx d s
  | .bitZp d => Sys2Proof.Machine.execBitZp d s
  | .andZp d => Sys2Proof.Machine.execAndZp d s
  | .rolZp d => Sys2Proof.Machine.execRolZp d s
  | .rlaZp d => Sys2Proof.Machine.execRlaZp d s
  | .plp => Sys2Proof.Machine.execPlp s
  | .andImm d => Sys2Proof.Machine.execAndImm d s
  | .rolAcc => Sys2Proof.Machine.execRolAcc s
  | .ancImm2B d => Sys2Proof.Machine.execAncImm2B d s
  | .bitAbs w => Sys2Proof.Machine.execBitAbs w s
  | .andAbs w => Sys2Proof.Machine.execAndAbs w s
  | .rolAbs w => Sys2Proof.Machine.execRolAbs w s
  | .rlaAbs w => Sys2Proof.Machine.execRlaAbs w s
  | .bmi d => Sys2Proof.Machine.execBmi d s
  | .andIzy d => Sys2Proof.Machine.execAndIzy d s
  | .jam32 => Sys2Proof.Machine.execJam32 s
  | .rlaIzy d => Sys2Proof.Machine.execRlaIzy d s
  | .nopZpx34 d => Sys2Proof.Machine.execNopZpx34 d s
  | .andZpx d => Sys2Proof.Machine.execAndZpx d s
  | .rolZpx d => Sys2Proof.Machine.execRolZpx d s
  | .rlaZpx d => Sys2Proof.Machine.execRlaZpx d s
  | .sec => Sys2Proof.Machine.execSec s
  | .andAby w => Sys2Proof.Machine.execAndAby w s
  | .nop3A => Sys2Proof.Machine.execNop3A s
  | .rlaAby w => Sys2Proof.Machine.execRlaAby w s
  | .nopAbx3C w => Sys2Proof.Machine.execNopAbx3C w s
  | .andAbx w => Sys2Proof.Machine.execAndAbx w s
  | .rolAbx w => Sys2Proof.Machine.execRolAbx w s
  | .rlaAbx w => Sys2Proof.Machine.execRlaAbx w s
  | .rti => Sys2Proof.Machine.execRti s
  | .eorIzx d => Sys2Proof.Machine.execEorIzx d s
  | .jam42 => Sys2Proof.Machine.execJam42 s
  | .sreIzx d => Sys2Proof.Machine.execSreIzx d s
  | .nopZp44 d => Sys2Proof.Machine.execNopZp44 d s
  | .eorZp d => Sys2Proof.Machine.execEorZp d s
  | .lsrZp d => Sys2Proof.Machine.execLsrZp d s
  | .sreZp d => Sys2Proof.Machine.execSreZp d s
  | .pha => Sys2Proof.Machine.execPha s
  | .eorImm d => Sys2Proof.Machine.execEorImm d s
  | .lsrAcc => Sys2Proof.Machine.execLsrAcc s
  | .alrImm d => Sys2Proof.Machine.execAlrImm d s
  | .jmpAbs w => Sys2Proof.Machine.execJmpAbs w s
  | .eorAbs w => Sys2Proof.Machine.execEorAbs w s
  | .lsrAbs w => Sys2Proof.Machine.execLsrAbs w s
  | .sreAbs w => Sys2Proof.Machine.execSreAbs w s
  | .bvc d => Sys2Proof.Machine.execBvc d s
  | .eorIzy d => Sys2Proof.Machine.execEorIzy d s
  | .jam52 => Sys2Proof.Machine.execJam52 s
  | .sreIzy d => Sys2Proof.Machine.execSreIzy d s
  | .nopZpx54 d => Sys2Proof.Machine.execNopZpx54 d s
  | .eorZpx d => Sys2Proof.Machine.execEorZpx d s
  | .lsrZpx d => Sys2Proof.Machine.execLsrZpx d s
  | .sreZpx d => Sys2Proof.Machine.execSreZpx d s
  | .cli => Sys2Proof.Machine.execCli s
  | .eorAby w => Sys2Proof.Machine.execEorAby w s
  | .nop5A => Sys2Proof.Machine.execNop5A s
  | .sreAby w => Sys2Proof.Machine.execSreAby w s
  | .nopAbx5C w => Sys2Proof.Machine.execNopAbx5C w s
  | .eorAbx w => Sys2Proof.Machine.execEorAbx w s
  | .lsrAbx w => Sys2Proof.Machine.execLsrAbx w s
  | .sreAbx w => Sys2Proof.Machine.execSreAbx w s
  | .rts => Sys2Proof.Machine.execRts s
  | .adcIzx d => Sys2Proof.Machine.execAdcIzx d s
  | .jam62 => Sys2Proof.Machine.execJam62 s
  | .rraIzx d => Sys2Proof.Machine.execRraIzx d s
  | .nopZp64 d => Sys2Proof.Machine.execNopZp64 d s
  | .adcZp d => Sys2Proof.Machine.execAdcZp d s
  | .rorZp d => Sys2Proof.Machine.execRorZp d s
  | .rraZp d => Sys2Proof.Machine.execRraZp d s
  | .pla => Sys2Proof.Machine.execPla s
  | .adcImm d => Sys2Proof.Machine.execAdcImm d s
  | .rorAcc => Sys2Proof.Machine.execRorAcc s
  | .arrImm d => Sys2Proof.Machine.execArrImm d s
  | .jmpInd w => Sys2Proof.Machine.execJmpInd w s
  | .adcAbs w => Sys2Proof.Machine.execAdcAbs w s
  | .rorAbs w => Sys2Proof.Machine.execRorAbs w s
  | .rraAbs w => Sys2Proof.Machine.execRraAbs w s
  | .bvs d => Sys2Proof.Machine.execBvs d s
  | .adcIzy d => Sys2Proof.Machine.execAdcIzy d s
  | .jam72 => Sys2Proof.Machine.execJam72 s
  | .rraIzy d => Sys2Proof.Machine.execRraIzy d s
  | .nopZpx74 d => Sys2Proof.Machine.execNopZpx74 d s
  | .adcZpx d => Sys2Proof.Machine.execAdcZpx d s
  | .rorZpx d => Sys2Proof.Machine.execRorZpx d s
  | .rraZpx d => Sys2Proof.Machine.execRraZpx d s
  | .sei => Sys2Proof.Machine.execSei s
  | .adcAby w => Sys2Proof.Machine.execAdcAby w s
  | .nop7A => Sys2Proof.Machine.execNop7A s
  | .rraAby w => Sys2Proof.Machine.execRraAby w s
  | .nopAbx7C w => Sys2Proof.Machine.execNopAbx7C w s
  | .adcAbx w => Sys2Proof.Machine.execAdcAbx w s
  | .rorAbx w => Sys2Proof.Machine.execRorAbx w s
  | .rraAbx w => Sys2Proof.Machine.execRraAbx w s
  | .nopImm80 d => Sys2Proof.Machine.execNopImm80 d s
  | .staIzx d => Sys2Proof.Machine.execStaIzx d s
  | .nopImm82 d => Sys2Proof.Machine.execNopImm82 d s
  | .saxIzx d => Sys2Proof.Machine.execSaxIzx d s
  | .styZp d => Sys2Proof.Machine.execStyZp d s
  | .staZp d => Sys2Proof.Machine.execStaZp d s
  | .stxZp d => Sys2Proof.Machine.execStxZp d s
  | .saxZp d => Sys2Proof.Machine.execSaxZp d s
  | .dey => Sys2Proof.Machine.execDey s
  | .nopImm89 d => Sys2Proof.Machine.execNopImm89 d s
  | .txa => Sys2Proof.Machine.execTxa s
  | .aneImm d => Sys2Proof.Machine.execAneImm d s
  | .styAbs w => Sys2Proof.Machine.execStyAbs w s
  | .staAbs w => Sys2Proof.Machine.execStaAbs w s
  | .stxAbs w => Sys2Proof.Machine.execStxAbs w s
  | .saxAbs w => Sys2Proof.Machine.execSaxAbs w s
  | .bcc d => Sys2Proof.Machine.execBcc d s
  | .staIzy d => Sys2Proof.Machine.execStaIzy d s
  | .jam92 => Sys2Proof.Machine.execJam92 s
  | .shaIzy d => Sys2Proof.Machine.execShaIzy d s
  | .styZpx d => Sys2Proof.Machine.execStyZpx d s
  | .staZpx d => Sys2Proof.Machine.execStaZpx d s
  | .stxZpy d => Sys2Proof.Machine.execStxZpy d s
  | .saxZpy d => Sys2Proof.Machine.execSaxZpy d s
  | .tya => Sys2Proof.Machine.execTya s
  | .staAby w => Sys2Proof.Machine.execStaAby w s
  | .txs => Sys2Proof.Machine.execTxs s
  | .tasAby w => Sys2Proof.Machine.execTasAby w s
  | .shyAbx w => Sys2Proof.Machine.execShyAbx w s
  | .staAbx w => Sys2Proof.Machine.execStaAbx w s
  | .shxAby w => Sys2Proof.Machine.execShxAby w s
  | .shaAby w => Sys2Proof.Machine.execShaAby w s
  | .ldyImm d => Sys2Proof.Machine.execLdyImm d s
  | .ldaIzx d => Sys2Proof.Machine.execLdaIzx d s
  | .ldxImm d => Sys2Proof.Machine.execLdxImm d s
  | .laxIzx d => Sys2Proof.Machine.execLaxIzx d s
  | .ldyZp d => Sys2Proof.Machine.execLdyZp d s
  | .ldaZp d => Sys2Proof.Machine.execLdaZp d s
  | .ldxZp d => Sys2Proof.Machine.execLdxZp d s
  | .laxZp d => Sys2Proof.Machine.execLaxZp d s
  | .tay => Sys2Proof.Machine.execTay s
  | .ldaImm d => Sys2Proof.Machine.execLdaImm d s
  | .tax => Sys2Proof.Machine.execTax s
  | .lxaImm d => Sys2Proof.Machine.execLxaImm d s
  | .ldyAbs w => Sys2Proof.Machine.execLdyAbs w s
  | .ldaAbs w => Sys2Proof.Machine.execLdaAbs w s
  | .ldxAbs w => Sys2Proof.Machine.execLdxAbs w s
  | .laxAbs w => Sys2Proof.Machine.execLaxAbs w s
  | .bcs d => Sys2Proof.Machine.execBcs d s
  | .ldaIzy d => Sys2Proof.Machine.execLdaIzy d s
  | .jamB2 => Sys2Proof.Machine.execJamB2 s
  | .laxIzy d => Sys2Proof.Machine.execLaxIzy d s
  | .ldyZpx d => Sys2Proof.Machine.execLdyZpx d s
  | .ldaZpx d => Sys2Proof.Machine.execLdaZpx d s
  | .ldxZpy d => Sys2Proof.Machine.execLdxZpy d s
  | .laxZpy d => Sys2Proof.Machine.execLaxZpy d s
  | .clv => Sys2Proof.Machine.execClv s
  | .ldaAby w => Sys2Proof.Machine.execLdaAby w s
  | .tsx => Sys2Proof.Machine.execTsx s
  | .lasAby w => Sys2Proof.Machine.execLasAby w s
  | .ldyAbx w => Sys2Proof.Machine.execLdyAbx w s
  | .ldaAbx w => Sys2Proof.Machine.execLdaAbx w s
  | .ldxAby w => Sys2Proof.Machine.execLdxAby w s
  | .laxAby w => Sys2Proof.Machine.execLaxAby w s
  | .cpyImm d => Sys2Proof.Machine.execCpyImm d s
  | .cmpIzx d => Sys2Proof.Machine.execCmpIzx d s
  | .nopImmC2 d => Sys2Proof.Machine.execNopImmC2 d s
  | .dcpIzx d => Sys2Proof.Machine.execDcpIzx d s
  | .cpyZp d => Sys2Proof.Machine.execCpyZp d s
  | .cmpZp d => Sys2Proof.Machine.execCmpZp d s
  | .decZp d => Sys2Proof.Machine.execDecZp d s
  | .dcpZp d => Sys2Proof.Machine.execDcpZp d s
  | .iny => Sys2Proof.Machine.execIny s
  | .cmpImm d => Sys2Proof.Machine.execCmpImm d s
  | .dex => Sys2Proof.Machine.execDex s
  | .sbxImm d => Sys2Proof.Machine.execSbxImm d s
  | .cpyAbs w => Sys2Proof.Machine.execCpyAbs w s
  | .cmpAbs w => Sys2Proof.Machine.execCmpAbs w s
  | .decAbs w => Sys2Proof.Machine.execDecAbs w s
  | .dcpAbs w => Sys2Proof.Machine.execDcpAbs w s
  | .bne d => Sys2Proof.Machine.execBne d s
  | .cmpIzy d => Sys2Proof.Machine.execCmpIzy d s
  | .jamD2 => Sys2Proof.Machine.execJamD2 s
  | .dcpIzy d => Sys2Proof.Machine.execDcpIzy d s
  | .nopZpxD4 d => Sys2Proof.Machine.execNopZpxD4 d s
  | .cmpZpx d => Sys2Proof.Machine.execCmpZpx d s
  | .decZpx d => Sys2Proof.Machine.execDecZpx d s
  | .dcpZpx d => Sys2Proof.Machine.execDcpZpx d s
  | .cld => Sys2Proof.Machine.execCld s
  | .cmpAby w => Sys2Proof.Machine.execCmpAby w s
  | .nopDA => Sys2Proof.Machine.execNopDA s
  | .dcpAby w => Sys2Proof.Machine.execDcpAby w s
  | .nopAbxDC w => Sys2Proof.Machine.execNopAbxDC w s
  | .cmpAbx w => Sys2Proof.Machine.execCmpAbx w s
  | .decAbx w => Sys2Proof.Machine.execDecAbx w s
  | .dcpAbx w => Sys2Proof.Machine.execDcpAbx w s
  | .cpxImm d => Sys2Proof.Machine.execCpxImm d s
  | .sbcIzx d => Sys2Proof.Machine.execSbcIzx d s
  | .nopImmE2 d => Sys2Proof.Machine.execNopImmE2 d s
  | .iscIzx d => Sys2Proof.Machine.execIscIzx d s
  | .cpxZp d => Sys2Proof.Machine.execCpxZp d s
  | .sbcZp d => Sys2Proof.Machine.execSbcZp d s
  | .incZp d => Sys2Proof.Machine.execIncZp d s
  | .iscZp d => Sys2Proof.Machine.execIscZp d s
  | .inx => Sys2Proof.Machine.execInx s
  | .sbcImm d => Sys2Proof.Machine.execSbcImm d s
  | .nop => Sys2Proof.Machine.execNop s
  | .usbcImm d => Sys2Proof.Machine.execUsbcImm d s
  | .cpxAbs w => Sys2Proof.Machine.execCpxAbs w s
  | .sbcAbs w => Sys2Proof.Machine.execSbcAbs w s
  | .incAbs w => Sys2Proof.Machine.execIncAbs w s
  | .iscAbs w => Sys2Proof.Machine.execIscAbs w s
  | .beq d => Sys2Proof.Machine.execBeq d s
  | .sbcIzy d => Sys2Proof.Machine.execSbcIzy d s
  | .jamF2 => Sys2Proof.Machine.execJamF2 s
  | .iscIzy d => Sys2Proof.Machine.execIscIzy d s
  | .nopZpxF4 d => Sys2Proof.Machine.execNopZpxF4 d s
  | .sbcZpx d => Sys2Proof.Machine.execSbcZpx d s
  | .incZpx d => Sys2Proof.Machine.execIncZpx d s
  | .iscZpx d => Sys2Proof.Machine.execIscZpx d s
  | .sed => Sys2Proof.Machine.execSed s
  | .sbcAby w => Sys2Proof.Machine.execSbcAby w s
  | .nopFA => Sys2Proof.Machine.execNopFA s
  | .iscAby w => Sys2Proof.Machine.execIscAby w s
  | .nopAbxFC w => Sys2Proof.Machine.execNopAbxFC w s
  | .sbcAbx w => Sys2Proof.Machine.execSbcAbx w s
  | .incAbx w => Sys2Proof.Machine.execIncAbx w s
  | .iscAbx w => Sys2Proof.Machine.execIscAbx w s

end Sys2Proof.Machine
end

