-- ==== Sys2Proof/Machine/Fetch.lean ====
section
/-! DEFINITION. Fetching and decoding the instruction at the program counter (R84), and storing a table word there. -/

namespace Sys2Proof.Machine

/-- The instruction at PC: its bytes are read at `pc0`, `pc0 + 1` and `pc0 + 2` modulo 65536 (R72, R84). A read changes
nothing (R53), so the bytes past the instruction's length may be read and are not looked at. JSR reads its third byte
again, after its pushes (R192). -/
def State.fetch (s : State) : Instr := decodeBytes (s.read s.pc) (s.read (s.pc + 1)) (s.read (s.pc + 2))

/-- `lastPC <- PC`, the beginning of every step (R32, R84). -/
def State.recordFetch (s : State) : State := { s with lastPC := s.pc }

/-- The bytes of a table word, stored at PC. -/
def State.placeAtPc (s : State) (nbits w : Nat) : State := s.writeBytes s.pc (tableBytes nbits w)

end Sys2Proof.Machine
end

