-- ==== Sys2Proof/Machine/Step.lean ====
section
/-! DEFINITION. The step of R84: record the address, fetch and decode, execute; and where a step fetches from. -/

namespace Sys2Proof.Machine

/-- One step of the engine executes one whole instruction (R84). The instruction sets PC and adds its cost (R12). -/
def step (s : State) : Host.Outcome State Fault Refusal := exec s.fetch s.recordFetch

/-- The state with an instruction of the opcode table stored at PC, where the next step fetches (R84); nothing else
changes. It stands for the host's seeding of a program (R340, assumption log 9). -/
def State.withFetchWord (s : State) (nbits w : Nat) : State := s.placeAtPc nbits w

end Sys2Proof.Machine
end

