-- ==== Sys2Proof/Machine/Creation.lean ====
section
/-! DEFINITION. A machine instance at creation, for any REG_INIT, any MEM_INIT and any variant (R5, R330, R331). -/

namespace Sys2Proof.Machine

/-- The machine at creation (R330, R331): the registers hold REG_INIT, every cell holds MEM_INIT, `cycles` is 0. The three
parameters are the spec's own and are left open here as it leaves them (D3, D7, D8). -/
def State.creation (regs : RegInit) (memInit : MemInit) (variant : Variant) : State where
  a := regs.a
  x := regs.x
  y := regs.y
  sp := regs.sp
  flagN := regs.flagN
  flagV := regs.flagV
  flagD := regs.flagD
  flagI := regs.flagI
  flagZ := regs.flagZ
  flagC := regs.flagC
  pc := regs.pc
  cycles := 0
  lastPC := regs.lastPC
  mem := Memory.ofInit memInit
  variant := variant

/-- The REG_INIT of `State.reset`: every register zero, every flag clear (DESIGN CHOICE, assumption log 1). -/
def resetRegInit : RegInit := ⟨0x00, 0x00, 0x00, 0x00, false, false, false, false, false, false, 0x0000, 0x0000⟩

/-- The MEM_INIT of `State.reset`: every cell reads as an unlisted one (DESIGN CHOICE, assumption log 2). -/
def resetMemInit : MemInit := fun _ => unlistedByte

/-- The variant of `State.reset`: the full NMOS 6502 (DESIGN CHOICE, assumption log 5). -/
def resetVariant : Variant := { decimalEnabled := true, undocMode := .full }

end Sys2Proof.Machine
end

