-- ==== Sys2Proof/Machine/HostOps.lean ====
section
/-! DEFINITION. What the host may do between steps: reset, seed, inspect, get and set a register, run (R332, R340 to
R348), and the interrupt entries of R304, which this block has no input for and which no step performs (R303). -/

namespace Sys2Proof.Machine

/-! ## Reset (R332) -/

/-- The `reset` operation (R332): `S <- S - 3`, `I <- 1`, `PC <- Read16(0xFFFC)`, `cycles <- 0`; nothing else changes,
in particular neither D nor `lastPC`. -/
def State.hostReset (s : State) : State :=
  { s with sp := s.sp - 3, flagI := true, pc := s.read16 resetVector, cycles := 0 }

/-! ## Seed and inspect (R340, R341) -/

/-- Seed: the bytes at rising addresses from `base`, wrapping past `0xFFFF` (R340). -/
def State.seed (s : State) (base : Addr) (bytes : List Byte) : State := s.writeBytes base bytes

/-- Inspect: the bytes at `n` rising addresses from `base`, wrapping past `0xFFFF` (R341). -/
def State.inspect (s : State) (base : Addr) (n : Nat) : List Byte := s.readBytes base n

/-! ## Registers by name (R342) -/

/-- The registers the host may name (R342). -/
inductive HostReg
  | A | X | Y | S | status | PC | lastPC
  deriving DecidableEq, Repr

/-- Get: the register's current value; for the status flags `P8(0)` (R33, R342). -/
def State.getReg (s : State) : HostReg → Nat
  | .A => s.a.toNat
  | .X => s.x.toNat
  | .Y => s.y.toNat
  | .S => s.sp.toNat
  | .status => (s.statusImage false).toNat
  | .PC => s.pc.toNat
  | .lastPC => s.lastPC.toNat

/-- Set: the value truncated to the register's width; for the status flags `setP` (R33, R342). `none` for `lastPC`, which
cannot be set. -/
def State.setReg (s : State) (r : HostReg) (v : Nat) : Option State :=
  match r with
  | .A => some (s.setA (BitVec.ofNat 8 v))
  | .X => some (s.setX (BitVec.ofNat 8 v))
  | .Y => some (s.setY (BitVec.ofNat 8 v))
  | .S => some (s.setSp (BitVec.ofNat 8 v))
  | .status => some (s.setStatus (BitVec.ofNat 8 v))
  | .PC => some (s.setPc (BitVec.ofNat 16 v))
  | .lastPC => none

/-! ## Run (R344) -/

/-- The loop of R344 with a bound on its iterations: step while fewer than `budget` cycles have elapsed since
`start`. -/
def runLoop : Nat → Nat → Nat → State → Out
  | 0, _, _, s => .next s
  | k + 1, start, budget, s =>
    if s.cycles - start < budget then
      match step s with
      | .next t => runLoop k start budget t
      | .fault f => .fault f
      | .refused r => .refused r
    else .next s

/-- `run(N)`: whole instructions until at least `N` cycles have elapsed since the call began (R344). Every step adds at
least 2 cycles (R345), so `N` iterations are never too few. -/
def run (budget : Nat) (s : State) : Out := runLoop budget s.cycles budget s

/-! ## The host's halt convention (R346, R348): no behaviour of the engine -/

/-- The halt trailer, `SEC` and a `BCS` to itself (R346). -/
def haltTrailer : List Byte := [0x38, 0xB0, 0xFE]

/-- The host's loading of a program: the image, the trailer after it, and PC at the image (R335, R346). -/
def State.loadProgram (s : State) (base : Addr) (image : List Byte) : State :=
  (s.seed base (image ++ haltTrailer)).setPc base

/-- The host's halt test: `lastPC` before and after a call of `run` (R346). -/
def haltDetected (before after : State) : Bool := decide (before.lastPC = after.lastPC)

/-- The end of a run of an image of `n` bytes at `base`: PC at the trailer's BCS and `C == 1` (R348). -/
def State.runEnded (s : State) (base : Addr) (n : Nat) : Bool :=
  decide (s.pc = base + BitVec.ofNat 16 n + 1) && s.flagC

/-! ## Interrupts, for a model that adds the inputs (R304); outside the block (R303, assumption log 8) -/

/-- Between two instructions: NMI is taken first, IRQ only when `I == 0`; the entry pushes PC and the image with B = 0 and
costs 7 cycles (R304). DESIGN CHOICE (assumption log 13): R304 leaves open when the inputs are sampled and that CLI, SEI and
PLP change I late; here the inputs are what the caller passes at this boundary, and I is tested as it stands there, so an
IRQ is taken or held off at once after CLI, SEI or PLP. -/
def State.takeInterrupt (s : State) (nmi irq : Bool) : State :=
  if nmi then (s.enterTrap s.pc false nmiVector).addCycles 7
  else if irq && !s.flagI then (s.enterTrap s.pc false irqVector).addCycles 7
  else s

end Sys2Proof.Machine
end

