-- ==== Sys2Proof/Safety.lean ====
section
/-! DEFINITION. The terms in which the claims about the machine are stated: the encodings of a mnemonic as its rule
lists them, the default ending of R12, which mnemonics write which register and flag (R20 to R28), the cells an
instruction stores to, and the invariant of the memory. No definition of the machine uses this file. -/

namespace Sys2Proof.Safety

open Sys2Proof.Machine

/-- The encodings of a mnemonic in the form its rule lists them: opcode, mode, base cycles, and whether the
page-cross penalty applies; in opcode order. -/
def encodingsOf (m : Mnemonic) : List (Nat × Mode × Nat × Bool) :=
  opcodeMap.zipIdx.filterMap fun p =>
    if p.1.mnemonic = m then some (p.2, p.1.mode, p.1.cycles, p.1.pageCrossPenalty) else none

/-- The default ending of R12: in the state `t` an instruction made of `s`, `PC <- pc0 + len` and
`cycles <- cycles + base_cycles + (1 if the row has page_cross_penalty and crossed)`. -/
def defaultEnding (i : Instr) (s t : State) : State :=
  { t with
    pc := s.pc + BitVec.ofNat 16 i.operand.length
    cycles := s.cycles + i.row.cycles +
      (if i.row.pageCrossPenalty = true ∧ pageCrossed i.operand s = true then 1 else 0) }

/-- The cell `0x0100 + S` (R23), written as the rule writes it. -/
def stackCell (sp : Byte) : Addr := 0x0100 + sp.setWidth 16

/-- Apply a change of the state to the next state of an outcome. -/
def mapNext (f : State → State) : Out → Out
  | .next t => .next (f t)
  | .fault r => .fault r
  | .refused r => .refused r

/-! ## What an instruction may write (R20 to R28) -/

/-- The mnemonics whose destination is `A`. -/
def writersOfA : List Mnemonic :=
  [.LDA, .TXA, .TYA, .ADC, .SBC, .AND, .ORA, .EOR, .PLA, .SLO, .RLA, .SRE, .RRA, .ISC, .LAX, .ANC, .ALR, .ARR, .USBC,
    .LAS, .ANE, .LXA]

/-- The mnemonics that shift or rotate their operand in its place, `A` in the accumulator form (R180). -/
def shifts : List Mnemonic := [.ASL, .LSR, .ROL, .ROR]

/-- The mnemonics whose destination is `X`. -/
def writersOfX : List Mnemonic := [.LDX, .TAX, .TSX, .INX, .DEX, .LAX, .SBX, .LAS, .LXA]

/-- The mnemonics whose destination is `Y`. -/
def writersOfY : List Mnemonic := [.LDY, .TAY, .INY, .DEY]

/-- The mnemonics that write `S`: TXS, every push and pull, TAS and LAS (R23). -/
def writersOfS : List Mnemonic := [.TXS, .PHA, .PHP, .PLA, .PLP, .JSR, .RTS, .BRK, .RTI, .TAS, .LAS]

/-- The writers of C (R28). -/
def writersOfC : List Mnemonic :=
  [.ADC, .SBC, .CMP, .CPX, .CPY, .ASL, .LSR, .ROL, .ROR, .CLC, .SEC, .PLP, .RTI,
    .SLO, .RLA, .SRE, .RRA, .DCP, .ISC, .ANC, .ALR, .ARR, .SBX, .USBC]

/-- The writers of Z, and of N (R28). -/
def writersOfNZ : List Mnemonic :=
  [.LDA, .LDX, .LDY, .TAX, .TAY, .TXA, .TYA, .TSX, .ADC, .SBC, .AND, .ORA, .EOR, .CMP, .CPX, .CPY, .BIT, .ASL, .LSR, .ROL,
    .ROR, .INC, .DEC, .INX, .INY, .DEX, .DEY, .PLA, .PLP, .RTI,
    .SLO, .RLA, .SRE, .RRA, .DCP, .ISC, .LAX, .ANC, .ALR, .ARR, .SBX, .USBC, .LAS, .ANE, .LXA]

/-- The writers of I (R28). -/
def writersOfI : List Mnemonic := [.SEI, .CLI, .PLP, .RTI, .BRK]

/-- The writers of D (R28). -/
def writersOfD : List Mnemonic := [.SED, .CLD, .PLP, .RTI]

/-- The writers of V (R28). -/
def writersOfV : List Mnemonic := [.ADC, .SBC, .BIT, .CLV, .PLP, .RTI, .RRA, .ISC, .ARR, .USBC]

/-- The mnemonics that store to the cell at `ea` in every form. -/
def storesAtEa : List Mnemonic :=
  [.STA, .STX, .STY, .INC, .DEC, .SLO, .RLA, .SRE, .RRA, .DCP, .ISC, .SAX, .SHA, .SHX, .SHY, .TAS]

/-- The cells an instruction stores to: the cell at `ea` of a store or a read-modify-write form (R133 to R135, R180), the
cells its pushes write (R24); none for any other form. -/
def storedCells (i : Instr) (s : State) : List Addr :=
  if i.mnemonic ∈ storesAtEa then [effAddr i.operand s]
  else if i.mnemonic ∈ shifts ∧ i.operand ≠ .acc then [effAddr i.operand s]
  else if i.mnemonic = .PHA ∨ i.mnemonic = .PHP then [stackCell s.sp]
  else if i.mnemonic = .JSR then [stackCell s.sp, stackCell (s.sp - 1)]
  else if i.mnemonic = .BRK then [stackCell s.sp, stackCell (s.sp - 1), stackCell (s.sp - 2)]
  else []

/-- The eight conditional branches (R194). -/
def branches : List Mnemonic := [.BPL, .BMI, .BVC, .BVS, .BCC, .BCS, .BNE, .BEQ]

/-- The control transfers: they set PC as their own rules say (R30). -/
def controlTransfers : List Mnemonic := branches ++ [.JMP, .JSR, .RTS, .BRK, .RTI, .JAM]

/-- The condition of a branch (R195 to R202); false for a mnemonic that is no branch. -/
def branchCondition (m : Mnemonic) (s : State) : Bool :=
  match m with
  | .BPL => s.flagN == false
  | .BMI => s.flagN == true
  | .BVC => s.flagV == false
  | .BVS => s.flagV == true
  | .BCC => s.flagC == false
  | .BCS => s.flagC == true
  | .BNE => s.flagZ == false
  | .BEQ => s.flagZ == true
  | _ => false

/-- The instructions that do arithmetic in decimal mode (R151). -/
def decimalInstructions : List Mnemonic := [.ADC, .SBC, .RRA, .ISC, .USBC, .ARR]

/-! ## Binary-coded decimal -/

/-- Both nibbles are decimal digits. -/
def isBcd (v : Byte) : Prop := v.toNat / 16 ≤ 9 ∧ v.toNat % 16 ≤ 9

/-- The number two decimal digits stand for. -/
def bcdValue (v : Byte) : Nat := 10 * (v.toNat / 16) + v.toNat % 16

/-- The byte that holds a number below 100 as two decimal digits. -/
def packBcd (n : Nat) : Byte := BitVec.ofNat 8 (16 * (n / 10) + n % 10)

/-! ## The invariant -/

/-- The memory is in canonical form: addresses strictly rising, below 65536, no cell listed that holds what an unlisted
cell reads as. -/
def MemoryCanonical (s : State) : Prop := s.mem.wf = true

end Sys2Proof.Safety
end

