-- ==== Sys2Proof/WellFormed.lean ====
section
/-! DEFINITION. Well-formedness of an encoding. Every term of `Instr` is well formed by its type; what can be ill
formed is an opcode byte put together with an operand of another mode (R71, R74), and a list of bytes that is not one
whole instruction (R70). -/

namespace Sys2Proof

/-- An opcode byte with an operand, before it is known that the one takes the other. -/
structure RawInstr where
  /-- The opcode byte (R72). -/
  opcode : Byte
  /-- The operand put beside it (R71). -/
  operand : Operand
  deriving DecidableEq, Repr

/-- The operand has the addressing mode of the opcode's row (R71, R74). -/
def RawInstr.wellFormed (r : RawInstr) : Bool := decide (r.operand.mode = (opcodeRow r.opcode).mode)

/-- An instruction is well formed when its opcode and operand go together: so for every one, see
`Sys2Proof.Laws.RowFit`. -/
def Instr.wellFormed (i : Instr) : Bool := RawInstr.wellFormed ⟨i.opcode, i.operand⟩

/-- The list of bytes is exactly one instruction, with no byte missing and none left over (R70, R72). -/
def wellFormedBytes (bytes : List Byte) : Bool :=
  match decode bytes with
  | .ok (_, rest) => rest.isEmpty
  | .error _ => false

end Sys2Proof
end

