-- ==== Sys2Proof/Certificates/Slice0/Obligations.lean ====
section
/-! DEFINITION. The statements for the provers. Each says what the machine does for every state; where one rests on a
choice of the spec itself (a decision `D<n>` of `92_eei_decisions.md` or a derived rule) its text says so. The words used
(`encodingsOf`, `defaultEnding`, `stackCell`, the lists of writers) are those of `Sys2Proof/Safety.lean`. -/

open Sys2Proof Sys2Proof.Machine Sys2Proof.Safety

/-- When the three bytes at PC (modulo 65536) decode to an instruction, step at that state is exec of that instruction at that state with lastPC set to PC; nothing else happens around exec. Rests on the step of 30_encoding.md section 5. -/
def Obligations.StepRunsDecodedInstruction : Prop :=
  ∀ (s : State) (i : Instr) (rest : List Byte),
    decode [s.read s.pc, s.read (s.pc + 1), s.read (s.pc + 2)] = .ok (i, rest) → i.wellFormed = true →
      step s = exec i { s with lastPC := s.pc }

/-- For every instruction (all 256 constructors, every operand value) and every list of following bytes, decode of encode i followed by them is i with exactly those bytes left. Rests on the formats of 30_encoding.md section 1. -/
def Obligations.DecodeOfEncodeIsTheInstruction : Prop :=
  ∀ (i : Instr) (rest : List Byte), decode (encode i ++ rest) = .ok (i, rest)

/-- If a list of bytes decodes to i with some rest, the list is encode i followed by that rest: no bit of an encoding is dropped and no two byte strings mean one instruction. Rests on the formats of 30_encoding.md section 1. -/
def Obligations.DecodedBytesAreTheEncoding : Prop :=
  ∀ (bytes : List Byte) (i : Instr) (rest : List Byte), decode bytes = .ok (i, rest) → bytes = encode i ++ rest

/-- For every opcode byte and every two following bytes there is an instruction with that opcode whose row is the one of that byte and whose length is that of the row; it is the first of the three bytes and as many more as the length says, and the length is 1, 2 or 3. The row and the length depend on the opcode byte alone. -/
def Obligations.EveryOpcodeByteDecodes : Prop :=
  ∀ b0 b1 b2 : Byte, ∃ (i : Instr) (rest : List Byte),
    decode [b0, b1, b2] = .ok (i, rest) ∧ i.opcode = b0 ∧ i.row = opcodeRow b0 ∧
      i.operand.mode = (opcodeRow b0).mode ∧
      encode i = [b0, b1, b2].take (opcodeRow b0).mode.length ∧
      rest = [b0, b1, b2].drop (opcodeRow b0).mode.length ∧
      1 ≤ (opcodeRow b0).mode.length ∧ (opcodeRow b0).mode.length ≤ 3

/-- One word of each format and mode family, written out from the examples of 30_encoding.md section 4 and the files 41 to 48, decodes to the instruction it stands for. -/
def Obligations.SpelledWordsDecode : Prop :=
  decode [0x18] = .ok (.clc, []) ∧
  decode [0x0A] = .ok (.aslAcc, []) ∧
  decode [0xA9, 0x10] = .ok (.ldaImm 0x10, []) ∧
  decode [0xA5, 0x10] = .ok (.ldaZp 0x10, []) ∧
  decode [0xB5, 0x10] = .ok (.ldaZpx 0x10, []) ∧
  decode [0xB6, 0x10] = .ok (.ldxZpy 0x10, []) ∧
  decode [0xAD, 0x34, 0x12] = .ok (.ldaAbs 0x1234, []) ∧
  decode [0xBD, 0x34, 0x12] = .ok (.ldaAbx 0x1234, []) ∧
  decode [0xB9, 0x34, 0x12] = .ok (.ldaAby 0x1234, []) ∧
  decode [0xA1, 0x10] = .ok (.ldaIzx 0x10, []) ∧
  decode [0xB1, 0x10] = .ok (.ldaIzy 0x10, []) ∧
  decode [0x6C, 0x34, 0x12] = .ok (.jmpInd 0x1234, []) ∧
  decode [0xB0, 0xFE] = .ok (.bcs 0xFE, []) ∧
  decode [0x07, 0x10] = .ok (.sloZp 0x10, []) ∧
  decode [0x9E, 0x34, 0x12] = .ok (.shxAby 0x1234, [])

/-- push writes its byte at 0x0100 + S, no other cell, and leaves S - 1 modulo 256; pull gives the byte at 0x0100 + ((S + 1) modulo 256) and leaves S + 1 modulo 256; no other register changes; the cell of every S lies in page 1. -/
def Obligations.PushAndPullUseTheStackPage : Prop :=
  (∀ (s : State) (v : Byte),
    s.push v = { s.write (0x0100 + s.sp.setWidth 16) v with sp := BitVec.ofNat 8 (s.sp.toNat + 255) }) ∧
  (∀ (s : State) (v : Byte) (p : Addr),
    (s.push v).read p = if p = 0x0100 + s.sp.setWidth 16 then v else s.read p) ∧
  (∀ s : State,
    s.pop = { s with sp := BitVec.ofNat 8 (s.sp.toNat + 1) } ∧
    s.pulled = s.read (0x0100 + (BitVec.ofNat 8 (s.sp.toNat + 1)).setWidth 16)) ∧
  (∀ sp : Byte, (stackCell sp).toNat = 256 + sp.toNat)

/-- P8(b) as a number is N*128 + V*64 + 32 + b*16 + D*8 + I*4 + Z*2 + C; setP loads each flag from its bit and depends on no other bit, so that a byte and the same byte with bits 5 and 4 changed load alike, and setP of P8(b) changes nothing. The bit places and bits 5 and 4 are the spec's own decision D5. -/
def Obligations.StatusImageAndLoad : Prop :=
  (∀ (s : State) (b : Bool),
    (s.statusImage b).toNat = s.flagN.toNat * 128 + s.flagV.toNat * 64 + 32 + b.toNat * 16 + s.flagD.toNat * 8 +
      s.flagI.toNat * 4 + s.flagZ.toNat * 2 + s.flagC.toNat) ∧
  (∀ (s : State) (v w : Byte), v &&& 0xCF = w &&& 0xCF → s.setStatus v = s.setStatus w) ∧
  (∀ (s : State) (b : Bool), s.setStatus (s.statusImage b) = s) ∧
  (∀ (s : State) (v : Byte) (b : Bool), (s.setStatus v).statusImage b = (v &&& 0xCF) ||| 0x20 ||| (if b then 0x10 else 0x00))

/-- The effective address of zp, zpx and zpy as a number: zp8; (zp8 + X) mod 256; (zp8 + Y) mod 256. None of them crosses a page. The three modes have length 2, and zpy is the mode of LDX, STX, LAX and SAX only. -/
def Obligations.ZeroPageModesStayInPageZero : Prop :=
  (∀ (d : Byte) (s : State),
    (effAddr (.zp d) s).toNat = d.toNat ∧
    (effAddr (.zpx d) s).toNat = (d.toNat + s.x.toNat) % 256 ∧
    (effAddr (.zpy d) s).toNat = (d.toNat + s.y.toNat) % 256 ∧
    pageCrossed (.zp d) s = false ∧ pageCrossed (.zpx d) s = false ∧ pageCrossed (.zpy d) s = false ∧
    (Operand.zp d).length = 2 ∧ (Operand.zpx d).length = 2 ∧ (Operand.zpy d).length = 2) ∧
  (∀ i : Instr, i.operand.mode = .zpy → i.mnemonic ∈ [Mnemonic.LDX, .STX, .LAX, .SAX])

/-- The effective address of abs is the operand word, low byte first in the encoding; of abx and aby the word plus X or Y read as unsigned, modulo 65536; crossed is whether the page of the base differs from that of the effective address, and false for abs. The same sum is the one of izy on its pointer. -/
def Obligations.AbsoluteModesWrapAt64K : Prop :=
  (∀ (lo hi : Byte) (s : State),
    (effAddr (.abs (joinBytes hi lo)) s).toNat = hi.toNat * 256 + lo.toNat ∧
    (Operand.abs (joinBytes hi lo)).bytes = [lo, hi] ∧ pageCrossed (.abs (joinBytes hi lo)) s = false) ∧
  (∀ (w : Addr) (s : State),
    (effAddr (.abx w) s).toNat = (w.toNat + s.x.toNat) % 65536 ∧
    (effAddr (.aby w) s).toNat = (w.toNat + s.y.toNat) % 65536 ∧
    (pageCrossed (.abx w) s = true ↔ w.toNat / 256 ≠ (w.toNat + s.x.toNat) % 65536 / 256) ∧
    (pageCrossed (.aby w) s = true ↔ w.toNat / 256 ≠ (w.toNat + s.y.toNat) % 65536 / 256) ∧
    (Operand.abs w).length = 3 ∧ (Operand.abx w).length = 3 ∧ (Operand.aby w).length = 3) ∧
  (∀ (d : Byte) (s : State),
    (effAddr (.izy d) s).toNat = ((zeroPagePointer d s).toNat + s.y.toNat) % 65536)

/-- izx adds X to the operand modulo 256 and reads its pointer there, the second byte at the next address modulo 256; izy reads its pointer at the operand, the second byte at the next address modulo 256, then adds Y modulo 65536 and compares the pages; ind reads its pointer at the operand word, the second byte from the same page. ind is the mode of JMP only. izx and ind cross no page. -/
def Obligations.IndirectModesReadTheirPointers : Prop :=
  (∀ (d : Byte) (s : State),
    effAddr (.izx d) s =
      joinBytes (s.read (BitVec.ofNat 16 ((d.toNat + s.x.toNat + 1) % 256)))
        (s.read (BitVec.ofNat 16 ((d.toNat + s.x.toNat) % 256))) ∧
    pageCrossed (.izx d) s = false ∧ (Operand.izx d).length = 2) ∧
  (∀ (d : Byte) (s : State),
    let base := joinBytes (s.read (BitVec.ofNat 16 ((d.toNat + 1) % 256))) (s.read (BitVec.ofNat 16 d.toNat))
    (effAddr (.izy d) s).toNat = (base.toNat + s.y.toNat) % 65536 ∧
    (pageCrossed (.izy d) s = true ↔ base.toNat / 256 ≠ (base.toNat + s.y.toNat) % 65536 / 256) ∧
    (Operand.izy d).length = 2) ∧
  (∀ (w : Addr) (s : State),
    effAddr (.ind w) s =
      joinBytes (s.read (BitVec.ofNat 16 (w.toNat / 256 * 256 + (w.toNat + 1) % 256))) (s.read w) ∧
    pageCrossed (.ind w) s = false ∧ (Operand.ind w).length = 3) ∧
  (∀ i : Instr, i.operand.mode = .ind → i.mnemonic = .JMP)

/-- For abx, aby and izy, crossed holds exactly when the page of the base differs from the page of the effective address, and exactly when the base's low byte plus the index exceeds 255; for each of the ten other modes it is false. -/
def Obligations.CrossedIsTheLowByteCarry : Prop :=
  (∀ (w : Addr) (s : State),
    (pageCrossed (.abx w) s = true ↔ page w ≠ page (effAddr (.abx w) s)) ∧
    (pageCrossed (.abx w) s = true ↔ w.toNat % 256 + s.x.toNat > 255) ∧
    (pageCrossed (.aby w) s = true ↔ page w ≠ page (effAddr (.aby w) s)) ∧
    (pageCrossed (.aby w) s = true ↔ w.toNat % 256 + s.y.toNat > 255)) ∧
  (∀ (d : Byte) (s : State),
    (pageCrossed (.izy d) s = true ↔ page (zeroPagePointer d s) ≠ page (effAddr (.izy d) s)) ∧
    (pageCrossed (.izy d) s = true ↔ (zeroPagePointer d s).toNat % 256 + s.y.toNat > 255)) ∧
  (∀ (op : Operand) (s : State), op.mode ∉ [Mode.abx, .aby, .izy] → pageCrossed op s = false)

/-- The effective address of rel is (pc0 + 2 + sext_8(rel8)) modulo 65536, with sext_8(v) = v below 128 and v - 256 from 128 on; it is the mode of the eight branches only, whose length is 2; displacement 0xFE is the branch's own address. -/
def Obligations.RelativeTargetCountsFromTheNextInstruction : Prop :=
  (∀ (d : Byte) (s : State),
    ((effAddr (.rel d) s).toNat : Int) =
      ((s.pc.toNat : Int) + 2 + (if d.toNat < 128 then (d.toNat : Int) else (d.toNat : Int) - 256)) % 65536 ∧
    (Operand.rel d).length = 2) ∧
  (∀ s : State, effAddr (.rel 0xFE) s = s.pc) ∧
  (∀ i : Instr, i.operand.mode = .rel ↔ i.mnemonic ∈ branches)

/-- Every form of LDA, LDX and LDY (18 constructors, the encodings of the three rules) answers a next state: the register is the operand byte M, N its bit 7, Z whether it is 0, PC and cycles by the default ending, and every other register, flag and cell as before. M is the operand byte for imm, A for acc (where the result of an instruction goes to A, and which is the mode of 0A, 2A, 4A, 6A), and the byte at ea for every mode that has an ea, zpy among them. imm and acc take no byte from memory, have length 2 and 1, one and no operand byte, and cross no page. The default ending is PC = pc0 + len and cycles plus base count, plus one when the row has the penalty and the page is crossed. -/
def Obligations.LoadsPutTheOperandInTheRegister : Prop :=
  (encodingsOf .LDA =
      [(0xA1, .izx, 6, false), (0xA5, .zp, 3, false), (0xA9, .imm, 2, false), (0xAD, .abs, 4, false),
       (0xB1, .izy, 5, true), (0xB5, .zpx, 4, false), (0xB9, .aby, 4, true), (0xBD, .abx, 4, true)] ∧
    encodingsOf .LDX =
      [(0xA2, .imm, 2, false), (0xA6, .zp, 3, false), (0xAE, .abs, 4, false), (0xB6, .zpy, 4, false),
       (0xBE, .aby, 4, true)] ∧
    encodingsOf .LDY =
      [(0xA0, .imm, 2, false), (0xA4, .zp, 3, false), (0xAC, .abs, 4, false), (0xB4, .zpx, 4, false),
       (0xBC, .abx, 4, true)]) ∧
  (∀ (i : Instr) (s : State),
    let m := operandByte i.operand s
    (i.mnemonic = .LDA →
      exec i s = .next (defaultEnding i s { s with a := m, flagN := m.getLsbD 7, flagZ := decide (m = 0) })) ∧
    (i.mnemonic = .LDX →
      exec i s = .next (defaultEnding i s { s with x := m, flagN := m.getLsbD 7, flagZ := decide (m = 0) })) ∧
    (i.mnemonic = .LDY →
      exec i s = .next (defaultEnding i s { s with y := m, flagN := m.getLsbD 7, flagZ := decide (m = 0) }))) ∧
  (∀ (op : Operand) (s : State), op.mode ∉ [Mode.imp, .acc, .imm] → operandByte op s = s.read (effAddr op s)) ∧
  (∀ (d : Byte) (s : State), operandByte (.imm d) s = d ∧ (Operand.imm d).bytes = [d] ∧ (Operand.imm d).length = 2 ∧
    pageCrossed (.imm d) s = false) ∧
  (∀ (s : State) (v : Byte), operandByte .acc s = s.a ∧ s.writeResult .acc v = { s with a := v } ∧
    Operand.acc.bytes = [] ∧ Operand.acc.length = 1 ∧ pageCrossed .acc s = false) ∧
  (∀ i : Instr, i.operand = .acc ↔ i.opcode ∈ [0x0A, 0x2A, 0x4A, 0x6A]) ∧
  (∀ (i : Instr) (s t : State),
    let extra := if i.row.pageCrossPenalty = true ∧ pageCrossed i.operand s = true then 1 else 0
    defaultEnding i s t = { t with pc := BitVec.ofNat 16 (s.pc.toNat + i.operand.length)
                                   cycles := s.cycles + i.row.cycles + extra })

/-- Every form of STA, STX and STY (13 constructors, the encodings of the three rules) answers a next state: the cell at ea reads as the register, every other cell reads as before, no register and no flag changes, and the cost is the base count whether or not a page is crossed. -/
def Obligations.StoresWriteOneCell : Prop :=
  (encodingsOf .STA =
      [(0x81, .izx, 6, false), (0x85, .zp, 3, false), (0x8D, .abs, 4, false), (0x91, .izy, 6, false),
       (0x95, .zpx, 4, false), (0x99, .aby, 5, false), (0x9D, .abx, 5, false)] ∧
    encodingsOf .STX =
      [(0x86, .zp, 3, false), (0x8E, .abs, 4, false), (0x96, .zpy, 4, false)] ∧
    encodingsOf .STY =
      [(0x84, .zp, 3, false), (0x8C, .abs, 4, false), (0x94, .zpx, 4, false)]) ∧
  ∀ (i : Instr) (s : State),
    (i.mnemonic = .STA → exec i s = .next (defaultEnding i s (s.write (effAddr i.operand s) s.a))) ∧
    (i.mnemonic = .STX → exec i s = .next (defaultEnding i s (s.write (effAddr i.operand s) s.x))) ∧
    (i.mnemonic = .STY → exec i s = .next (defaultEnding i s (s.write (effAddr i.operand s) s.y))) ∧
    (i.mnemonic ∈ [Mnemonic.STA, .STX, .STY] → ∀ t, exec i s = .next t →
      t.cycles = s.cycles + i.row.cycles ∧
      (∀ p : Addr, p ≠ effAddr i.operand s → t.read p = s.read p) ∧
      (i.mnemonic = .STA → t.read (effAddr i.operand s) = s.a) ∧
      (i.mnemonic = .STX → t.read (effAddr i.operand s) = s.x) ∧
      (i.mnemonic = .STY → t.read (effAddr i.operand s) = s.y))

/-- Each of the six transfers (the encodings of their rules, one byte, 2 cycles) answers a next state: the destination gets the source, N is its bit 7 and Z whether it is 0, for TXS no flag; everything else but PC and cycles is as before. -/
def Obligations.TransfersMoveOneRegister : Prop :=
  (encodingsOf .TAX = [(0xAA, .imp, 2, false)] ∧
    encodingsOf .TAY = [(0xA8, .imp, 2, false)] ∧
    encodingsOf .TXA = [(0x8A, .imp, 2, false)] ∧
    encodingsOf .TYA = [(0x98, .imp, 2, false)] ∧
    encodingsOf .TSX = [(0xBA, .imp, 2, false)] ∧
    encodingsOf .TXS = [(0x9A, .imp, 2, false)]) ∧
  ∀ s : State,
    exec .tax s = .next { s with x := s.a, flagN := s.a.getLsbD 7, flagZ := decide (s.a = 0),
                                 pc := s.pc + 1, cycles := s.cycles + 2 } ∧
    exec .tay s = .next { s with y := s.a, flagN := s.a.getLsbD 7, flagZ := decide (s.a = 0),
                                 pc := s.pc + 1, cycles := s.cycles + 2 } ∧
    exec .txa s = .next { s with a := s.x, flagN := s.x.getLsbD 7, flagZ := decide (s.x = 0),
                                 pc := s.pc + 1, cycles := s.cycles + 2 } ∧
    exec .tya s = .next { s with a := s.y, flagN := s.y.getLsbD 7, flagZ := decide (s.y = 0),
                                 pc := s.pc + 1, cycles := s.cycles + 2 } ∧
    exec .tsx s = .next { s with x := s.sp, flagN := s.sp.getLsbD 7, flagZ := decide (s.sp = 0),
                                 pc := s.pc + 1, cycles := s.cycles + 2 } ∧
    exec .txs s = .next { s with sp := s.x, pc := s.pc + 1, cycles := s.cycles + 2 }

/-- For all operands and carries: the value is (A + M + C) mod 256, C whether the sum exceeds 255, V whether the sum of the operands read as two's complement lies outside -128..127, N bit 7 and Z zero of the value. The formula carries the spec's own decision D15. -/
def Obligations.AddBinaryIsTheNineBitSum : Prop :=
  ∀ (a m : Byte) (c : Bool),
    (addBinary a m c).value.toNat = (a.toNat + m.toNat + c.toNat) % 256 ∧
    ((addBinary a m c).c = true ↔ a.toNat + m.toNat + c.toNat > 255) ∧
    ((addBinary a m c).v = true ↔
      (a.toInt + m.toInt + (c.toNat : Int) < -128 ∨ a.toInt + m.toInt + (c.toNat : Int) > 127)) ∧
    ((addBinary a m c).n = true ↔ (a.toNat + m.toNat + c.toNat) % 256 ≥ 128) ∧
    ((addBinary a m c).z = true ↔ (a.toNat + m.toNat + c.toNat) % 256 = 0)

/-- For operands whose nibbles are decimal digits, the value holds the two decimal digits of the sum of the two numbers and the carry, modulo 100, and C says that the sum is 100 or more; for all operands, BCD or not: with al the sum of the low nibbles and the carry, replaced by ((al + 6) mod 16) + 16 from 10 on, and s the sum of the two high nibbles in their places and al, N is bit 7 of s mod 256, V the overflow rule (A xor s) and (m xor s) in bit 7, as the spec derives it, Z that of the plain binary sum, the value is that of s, plus 0x60 when s is at least 0xA0, modulo 256, and C says that this corrected sum is at least 0x100. Rests on the spec's own decision D15. -/
def Obligations.AddDecimalAddsDecimalDigits : Prop :=
  (∀ (a m : Byte) (c : Bool), isBcd a → isBcd m →
    (addDecimal a m c).value = packBcd ((bcdValue a + bcdValue m + c.toNat) % 100) ∧
    ((addDecimal a m c).c = true ↔ bcdValue a + bcdValue m + c.toNat ≥ 100)) ∧
  (∀ (a m : Byte) (c : Bool),
    let low := a.toNat % 16 + m.toNat % 16 + c.toNat
    let s := a.toNat / 16 * 16 + m.toNat / 16 * 16 + (if low ≥ 10 then (low + 6) % 16 + 16 else low)
    let fixed := if s ≥ 0xA0 then s + 0x60 else s
    ((addDecimal a m c).n = true ↔ s % 256 ≥ 128) ∧
    (addDecimal a m c).v = ((a ^^^ BitVec.ofNat 8 s) &&& (m ^^^ BitVec.ofNat 8 s)).getLsbD 7 ∧
    ((addDecimal a m c).z = true ↔ (a.toNat + m.toNat + c.toNat) % 256 = 0) ∧
    (addDecimal a m c).value.toNat = fixed % 256 ∧
    ((addDecimal a m c).c = true ↔ fixed ≥ 0x100))

/-- For all operands: the binary value is (A - M - (1 - C)) mod 256; C is 1 exactly when no borrow occurs; V whether the difference of the operands read as two's complement lies outside -128..127; N and Z from the binary value, in decimal mode too; in binary mode SUB(M) is ADD_BIN(M xor 0xFF). In decimal mode, for every operand, BCD or not, the value is the nibble-corrected difference: al the low nibbles' difference with the borrow, replaced by ((al - 6) mod 16) - 16 when negative, t the high nibbles' difference in their places plus al, less 0x60 when negative, modulo 256; and for operands whose nibbles are decimal digits it holds the two decimal digits of the difference modulo 100. Rests on the spec's own decision D15. -/
def Obligations.SubtractBorrowsAndKeepsBinaryFlags : Prop :=
  (∀ (decimal : Bool) (a m : Byte) (c : Bool),
    let d : Int := (a.toNat : Int) - (m.toNat : Int) - (1 - (c.toNat : Int))
    let e : Int := a.toInt - m.toInt - (1 - (c.toNat : Int))
    ((subtract decimal a m c).c = true ↔ d ≥ 0) ∧
    ((subtract decimal a m c).v = true ↔ (e < -128 ∨ e > 127)) ∧
    ((subtract decimal a m c).n = true ↔ d % 256 ≥ 128) ∧
    ((subtract decimal a m c).z = true ↔ d % 256 = 0) ∧
    (decimal = false → ((subtract decimal a m c).value.toNat : Int) = d % 256)) ∧
  (∀ (a m : Byte) (c : Bool), subtract false a m c = addBinary a (m ^^^ 0xFF) c) ∧
  (∀ (a m : Byte) (c : Bool),
    let al : Int := (a.toNat : Int) % 16 - (m.toNat : Int) % 16 + (c.toNat : Int) - 1
    let t : Int := (a.toNat : Int) / 16 * 16 - (m.toNat : Int) / 16 * 16 + (if al < 0 then (al - 6) % 16 - 16 else al)
    ((subtract true a m c).value.toNat : Int) = (if t < 0 then t - 0x60 else t) % 256) ∧
  (∀ (a m : Byte) (c : Bool), isBcd a → isBcd m →
    (subtract true a m c).value = packBcd ((bcdValue a + 99 + c.toNat - bcdValue m) % 100))

/-- Every form of ADC and SBC (16 constructors, the encodings of their rules) answers a next state: A and the flags N, V, Z, C are those of the addition or subtraction of A, M and C, in decimal when D is 1 and DECIMAL_ENABLED is true and in binary otherwise; I, D, X, Y, S and memory as before; PC and cycles by the default ending. The decimal formulas are the spec's own decision D15. -/
def Obligations.AdcAndSbcUpdateTheAccumulator : Prop :=
  (encodingsOf .ADC =
      [(0x61, .izx, 6, false), (0x65, .zp, 3, false), (0x69, .imm, 2, false), (0x6D, .abs, 4, false),
       (0x71, .izy, 5, true), (0x75, .zpx, 4, false), (0x79, .aby, 4, true), (0x7D, .abx, 4, true)] ∧
    encodingsOf .SBC =
      [(0xE1, .izx, 6, false), (0xE5, .zp, 3, false), (0xE9, .imm, 2, false), (0xED, .abs, 4, false),
       (0xF1, .izy, 5, true), (0xF5, .zpx, 4, false), (0xF9, .aby, 4, true), (0xFD, .abx, 4, true)]) ∧
  ∀ (i : Instr) (s : State),
    let m := operandByte i.operand s
    (i.mnemonic = .ADC →
      let r := if s.flagD = true ∧ s.variant.decimalEnabled = true then addDecimal s.a m s.flagC else addBinary s.a m s.flagC
      exec i s = .next (defaultEnding i s
        { s with a := r.value, flagN := r.n, flagV := r.v, flagZ := r.z, flagC := r.c })) ∧
    (i.mnemonic = .SBC →
      let r := subtract (decide (s.flagD = true ∧ s.variant.decimalEnabled = true)) s.a m s.flagC
      exec i s = .next (defaultEnding i s
        { s with a := r.value, flagN := r.n, flagV := r.v, flagZ := r.z, flagC := r.c }))

/-- Every form of AND, ORA and EOR (24 constructors, the encodings of their rules) answers a next state whose A has, in each bit, the and, or, exclusive or of the bits of A and M; N is its bit 7, Z whether it is 0; C, V, I, D, the other registers and memory as before; PC and cycles by the default ending. -/
def Obligations.LogicUpdatesTheAccumulator : Prop :=
  (encodingsOf .AND =
      [(0x21, .izx, 6, false), (0x25, .zp, 3, false), (0x29, .imm, 2, false), (0x2D, .abs, 4, false),
       (0x31, .izy, 5, true), (0x35, .zpx, 4, false), (0x39, .aby, 4, true), (0x3D, .abx, 4, true)] ∧
    encodingsOf .ORA =
      [(0x01, .izx, 6, false), (0x05, .zp, 3, false), (0x09, .imm, 2, false), (0x0D, .abs, 4, false),
       (0x11, .izy, 5, true), (0x15, .zpx, 4, false), (0x19, .aby, 4, true), (0x1D, .abx, 4, true)] ∧
    encodingsOf .EOR =
      [(0x41, .izx, 6, false), (0x45, .zp, 3, false), (0x49, .imm, 2, false), (0x4D, .abs, 4, false),
       (0x51, .izy, 5, true), (0x55, .zpx, 4, false), (0x59, .aby, 4, true), (0x5D, .abx, 4, true)]) ∧
  ∀ (i : Instr) (s : State), i.mnemonic ∈ [Mnemonic.AND, .ORA, .EOR] →
    ∃ r : Byte,
      (∀ k, k < 8 → r.getLsbD k =
        (let p := s.a.getLsbD k
         let q := (operandByte i.operand s).getLsbD k
         if i.mnemonic = .AND then p && q else if i.mnemonic = .ORA then p || q else p != q)) ∧
      exec i s = .next (defaultEnding i s { s with a := r, flagN := r.getLsbD 7, flagZ := decide (r = 0) })

/-- Every form of CMP, CPX and CPY (14 constructors, the encodings of their rules) answers a next state in which C says that the register is at least M as unsigned numbers, Z that they are equal, N is bit 7 of their difference modulo 256; V, I, D, every register and memory are as before and D has no effect; PC and cycles by the default ending. -/
def Obligations.ComparesSetCarryNegativeZero : Prop :=
  (encodingsOf .CMP =
      [(0xC1, .izx, 6, false), (0xC5, .zp, 3, false), (0xC9, .imm, 2, false), (0xCD, .abs, 4, false),
       (0xD1, .izy, 5, true), (0xD5, .zpx, 4, false), (0xD9, .aby, 4, true), (0xDD, .abx, 4, true)] ∧
    encodingsOf .CPX =
      [(0xE0, .imm, 2, false), (0xE4, .zp, 3, false), (0xEC, .abs, 4, false)] ∧
    encodingsOf .CPY =
      [(0xC0, .imm, 2, false), (0xC4, .zp, 3, false), (0xCC, .abs, 4, false)]) ∧
  ∀ (i : Instr) (s : State), i.mnemonic ∈ [Mnemonic.CMP, .CPX, .CPY] →
    let r := if i.mnemonic = .CMP then s.a else if i.mnemonic = .CPX then s.x else s.y
    let m := operandByte i.operand s
    exec i s = .next (defaultEnding i s
      { s with flagC := decide (r.toNat ≥ m.toNat), flagZ := decide (r = m),
               flagN := decide ((r.toNat + 256 - m.toNat) % 256 ≥ 128) })

/-- Both forms of BIT answer a next state in which N is bit 7 and V bit 6 of the operand whatever A holds, Z says that no bit is set in both A and M; C, I, D, A, the other registers and memory as before; PC and cycles by the default ending. -/
def Obligations.BitTestsTheOperand : Prop :=
  (encodingsOf .BIT =
      [(0x24, .zp, 3, false), (0x2C, .abs, 4, false)]) ∧
  ∀ (i : Instr) (s : State), i.mnemonic = .BIT →
    let m := operandByte i.operand s
    exec i s = .next (defaultEnding i s
      { s with flagN := decide (m.toNat ≥ 128), flagV := decide (m.toNat % 128 ≥ 64), flagZ := decide (s.a &&& m = 0) })

/-- Every form of the four shifts and rotates (20 constructors, the encodings of their rules) answers a next state: with c_in the old carry, the result is M*2 mod 256, M div 2, (M*2 mod 256) + c_in, M div 2 + 128*c_in; it goes to A in the accumulator form (memory untouched) and to the cell at ea otherwise (A untouched); C is old bit 7 (ASL, ROL) or old bit 0 (LSR, ROR); N and Z from the result; V, I, D and the other registers as before; PC and cycles by the default ending. -/
def Obligations.ShiftsMoveOneBit : Prop :=
  (encodingsOf .ASL =
      [(0x06, .zp, 5, false), (0x0A, .acc, 2, false), (0x0E, .abs, 6, false), (0x16, .zpx, 6, false),
       (0x1E, .abx, 7, false)] ∧
    encodingsOf .LSR =
      [(0x46, .zp, 5, false), (0x4A, .acc, 2, false), (0x4E, .abs, 6, false), (0x56, .zpx, 6, false),
       (0x5E, .abx, 7, false)] ∧
    encodingsOf .ROL =
      [(0x26, .zp, 5, false), (0x2A, .acc, 2, false), (0x2E, .abs, 6, false), (0x36, .zpx, 6, false),
       (0x3E, .abx, 7, false)] ∧
    encodingsOf .ROR =
      [(0x66, .zp, 5, false), (0x6A, .acc, 2, false), (0x6E, .abs, 6, false), (0x76, .zpx, 6, false),
       (0x7E, .abx, 7, false)]) ∧
  ∀ (i : Instr) (s : State), i.mnemonic ∈ [Mnemonic.ASL, .LSR, .ROL, .ROR] →
    let m := operandByte i.operand s
    let r : Byte := BitVec.ofNat 8
      (if i.mnemonic = .ASL then m.toNat * 2 % 256
       else if i.mnemonic = .LSR then m.toNat / 2
       else if i.mnemonic = .ROL then m.toNat * 2 % 256 + s.flagC.toNat
       else m.toNat / 2 + 128 * s.flagC.toNat)
    let c := if i.mnemonic ∈ [Mnemonic.ASL, .ROL] then decide (m.toNat ≥ 128) else decide (m.toNat % 2 = 1)
    let t : State := { s with flagC := c, flagN := decide (r.toNat ≥ 128), flagZ := decide (r.toNat = 0) }
    (i.operand = .acc → m = s.a ∧ exec i s = .next (defaultEnding i s { t with a := r })) ∧
    (i.operand ≠ .acc → m = s.read (effAddr i.operand s) ∧
      exec i s = .next (defaultEnding i s (t.write (effAddr i.operand s) r)))

/-- Every form of INC and DEC (8 constructors, the encodings of their rules) answers a next state: the cell at ea holds its old value plus or minus one modulo 256, N and Z describe it, C and V are not touched, also on a wrap; every register and every other cell as before; PC and cycles by the default ending. -/
def Obligations.IncrementAndDecrementMemory : Prop :=
  (encodingsOf .INC =
      [(0xE6, .zp, 5, false), (0xEE, .abs, 6, false), (0xF6, .zpx, 6, false), (0xFE, .abx, 7, false)] ∧
    encodingsOf .DEC =
      [(0xC6, .zp, 5, false), (0xCE, .abs, 6, false), (0xD6, .zpx, 6, false), (0xDE, .abx, 7, false)]) ∧
  ∀ (i : Instr) (s : State), i.mnemonic ∈ [Mnemonic.INC, .DEC] →
    let m := s.read (effAddr i.operand s)
    let r : Byte := BitVec.ofNat 8 (if i.mnemonic = .INC then (m.toNat + 1) % 256 else (m.toNat + 255) % 256)
    exec i s = .next (defaultEnding i s
      { s.write (effAddr i.operand s) r with flagN := decide (r.toNat ≥ 128), flagZ := decide (r.toNat = 0) })

/-- Each of the four (the encodings of their rules, one byte, 2 cycles) answers a next state: the index register holds its old value plus or minus one modulo 256, N and Z describe it; C, V and everything else but PC and cycles as before. -/
def Obligations.IncrementAndDecrementIndex : Prop :=
  (encodingsOf .INX = [(0xE8, .imp, 2, false)] ∧
    encodingsOf .INY = [(0xC8, .imp, 2, false)] ∧
    encodingsOf .DEX = [(0xCA, .imp, 2, false)] ∧
    encodingsOf .DEY = [(0x88, .imp, 2, false)]) ∧
  ∀ s : State,
    (let r : Byte := BitVec.ofNat 8 (s.x.toNat + 1)
     exec .inx s = .next { s with x := r, flagN := decide (r.toNat ≥ 128), flagZ := decide (r.toNat = 0),
                                  pc := s.pc + 1, cycles := s.cycles + 2 }) ∧
    (let r : Byte := BitVec.ofNat 8 (s.y.toNat + 1)
     exec .iny s = .next { s with y := r, flagN := decide (r.toNat ≥ 128), flagZ := decide (r.toNat = 0),
                                  pc := s.pc + 1, cycles := s.cycles + 2 }) ∧
    (let r : Byte := BitVec.ofNat 8 (s.x.toNat + 255)
     exec .dex s = .next { s with x := r, flagN := decide (r.toNat ≥ 128), flagZ := decide (r.toNat = 0),
                                  pc := s.pc + 1, cycles := s.cycles + 2 }) ∧
    (let r : Byte := BitVec.ofNat 8 (s.y.toNat + 255)
     exec .dey s = .next { s with y := r, flagN := decide (r.toNat ≥ 128), flagZ := decide (r.toNat = 0),
                                  pc := s.pc + 1, cycles := s.cycles + 2 })

/-- JMP absolute sets PC to its operand word in 3 cycles; JMP indirect sets PC to the pointer at its operand word, whose high byte is read from the same page, in 5 cycles, so that with the low byte 0xFF it comes from the start of that page; nothing else changes, no flag, no cell. -/
def Obligations.JumpsSetThePc : Prop :=
  (encodingsOf .JMP =
      [(0x4C, .abs, 3, false), (0x6C, .ind, 5, false)]) ∧
  ∀ (w : Addr) (s : State),
    exec (.jmpAbs w) s = .next { s with pc := w, cycles := s.cycles + 3 } ∧
    exec (.jmpInd w) s = .next { s with
      pc := BitVec.ofNat 16 ((s.read (BitVec.ofNat 16 (w.toNat / 256 * 256 + (w.toNat + 1) % 256))).toNat * 256 +
        (s.read w).toNat)
      cycles := s.cycles + 5 } ∧
    (w.toNat % 256 = 255 → ∃ t, exec (.jmpInd w) s = .next t ∧ t.pc = joinBytes (s.read (w - 255)) (s.read w))

/-- JSR writes the high byte of pc0 + 2 at 0x0100 + S and the low byte at 0x0100 + (S - 1 modulo 256), leaves S - 2 modulo 256, and sets PC to the low byte of its operand and, as high byte, the cell at pc0 + 2 as it reads after the two pushes; 6 cycles; no flag, no other register, no other cell changes. When neither push lands on the third byte, and the cell at pc0 + 2 holds the high byte of the operand, PC is the operand word. That the low byte is taken from the operand, which the fetch read at pc0 + 1, and that the operand's own high byte is not used, for every operand and every memory, is the model's reading of the rule (DEDUCED, assumption log 11). -/
def Obligations.JsrPushesItsLastByteAddress : Prop :=
  (encodingsOf .JSR = [(0x20, .abs, 6, false)]) ∧
  (∀ (w : Addr) (s : State),
    let ret := s.pc + 2
    let pushed := (s.write (0x0100 + s.sp.setWidth 16) (page ret)).write (0x0100 + (s.sp - 1).setWidth 16) (lowByte ret)
    exec (.jsrAbs w) s = .next { pushed with
      sp := s.sp - 2
      pc := joinBytes (pushed.read (s.pc + 2)) (lowByte w)
      cycles := s.cycles + 6 }) ∧
  (∀ (w : Addr) (s : State), s.read (s.pc + 2) = page w →
    s.pc + 2 ≠ stackCell s.sp → s.pc + 2 ≠ stackCell (s.sp - 1) →
      ∃ t, exec (.jsrAbs w) s = .next t ∧ t.pc = w)

/-- JSR answers a next state whose PC has the low byte of its operand as its low byte. If 0x0100 + S is pc0 + 2, the target's high byte is the high byte of pc0 + 2, which was pushed there; if instead 0x0100 + (S - 1 modulo 256) is pc0 + 2, it is the low byte of pc0 + 2; otherwise it is the byte that stood there before. The order of JSR's accesses is that of 44_control_flow.md section 2. That the low byte is taken from the operand, which the fetch read at pc0 + 1, and the high byte from memory even where the operand is not what memory holds, so that the operand's own high byte is not used, is the model's reading of the rule (DEDUCED, assumption log 11). -/
def Obligations.JsrThirdByteIsReadAfterThePushes : Prop :=
  ∀ (w : Addr) (s : State), ∃ t, exec (.jsrAbs w) s = .next t ∧ lowByte t.pc = lowByte w ∧
    page t.pc =
      if s.pc + 2 = stackCell s.sp then page (s.pc + 2)
      else if s.pc + 2 = stackCell (s.sp - 1) then lowByte (s.pc + 2)
      else s.read (s.pc + 2)

/-- RTS pulls the low byte at 0x0100 + (S + 1 modulo 256) and the high byte at 0x0100 + (S + 2 modulo 256), leaves S + 2 modulo 256, and sets PC to that word plus one modulo 65536, in 6 cycles; no flag, no other register and no cell changes. RTS in the state a JSR left, PC apart, continues at the JSR's pc0 + 3 with the S from before the JSR. -/
def Obligations.RtsReturnsPastTheCall : Prop :=
  (encodingsOf .RTS = [(0x60, .imp, 6, false)]) ∧
  (∀ s : State,
    exec .rts s = .next { s with
      sp := s.sp + 2
      pc := BitVec.ofNat 16 ((s.read (stackCell (s.sp + 2))).toNat * 256 + (s.read (stackCell (s.sp + 1))).toNat + 1)
      cycles := s.cycles + 6 }) ∧
  (∀ (w : Addr) (s t : State) (p : Addr), exec (.jsrAbs w) s = .next t →
    ∃ u, exec .rts { t with pc := p } = .next u ∧ u.pc = s.pc + 3 ∧ u.sp = s.sp)

/-- Each branch answers a next state. When its condition holds (BPL N=0, BMI N=1, BVC V=0, BVS V=1, BCC C=0, BCS C=1, BNE Z=0, BEQ Z=1) PC is the target, for 3 cycles when the target is on the page of pc0 + 2 and 4 otherwise; else PC is pc0 + 2, for 2 cycles. No flag, no register and no cell changes. The cycle rule is the spec's own decision D19. -/
def Obligations.BranchesTestOneFlag : Prop :=
  (encodingsOf .BPL = [(0x10, .rel, 2, false)] ∧
    encodingsOf .BMI = [(0x30, .rel, 2, false)] ∧
    encodingsOf .BVC = [(0x50, .rel, 2, false)] ∧
    encodingsOf .BVS = [(0x70, .rel, 2, false)] ∧
    encodingsOf .BCC = [(0x90, .rel, 2, false)] ∧
    encodingsOf .BCS = [(0xB0, .rel, 2, false)] ∧
    encodingsOf .BNE = [(0xD0, .rel, 2, false)] ∧
    encodingsOf .BEQ = [(0xF0, .rel, 2, false)]) ∧
  ∀ (i : Instr) (s : State), i.mnemonic ∈ branches →
    let next := s.pc + 2
    let target := effAddr i.operand s
    exec i s = .next
      (if branchCondition i.mnemonic s = true then
        { s with pc := target, cycles := s.cycles + 3 + (if page target ≠ page next then 1 else 0) }
      else { s with pc := next, cycles := s.cycles + 2 })

/-- PHA writes A, and PHP the status image with bits 5 and 4 set, at 0x0100 + S and leave S - 1 modulo 256, changing no flag, in 3 cycles; PLA loads A with N and Z, and PLP the six flags, from the byte at 0x0100 + (S + 1 modulo 256) and leave S + 1 modulo 256, changing no cell, in 4 cycles; PC advances by one; nothing else changes. The image is the spec's own decision D5. -/
def Obligations.PushesAndPullsMoveOneByte : Prop :=
  (encodingsOf .PHA = [(0x48, .imp, 3, false)] ∧
    encodingsOf .PHP = [(0x08, .imp, 3, false)] ∧
    encodingsOf .PLA = [(0x68, .imp, 4, false)] ∧
    encodingsOf .PLP = [(0x28, .imp, 4, false)]) ∧
  ∀ s : State,
    exec .pha s = .next { s.write (0x0100 + s.sp.setWidth 16) s.a with
      sp := s.sp - 1, pc := s.pc + 1, cycles := s.cycles + 3 } ∧
    exec .php s = .next { s.write (0x0100 + s.sp.setWidth 16)
        (BitVec.ofNat 8 (s.flagN.toNat * 128 + s.flagV.toNat * 64 + 32 + 16 + s.flagD.toNat * 8 + s.flagI.toNat * 4 +
          s.flagZ.toNat * 2 + s.flagC.toNat)) with
      sp := s.sp - 1, pc := s.pc + 1, cycles := s.cycles + 3 } ∧
    (let v := s.read (0x0100 + (s.sp + 1).setWidth 16)
     exec .pla s = .next { s with
       a := v, flagN := v.getLsbD 7, flagZ := decide (v = 0), sp := s.sp + 1, pc := s.pc + 1, cycles := s.cycles + 4 } ∧
     exec .plp s = .next { s with
       flagN := v.getLsbD 7, flagV := v.getLsbD 6, flagD := v.getLsbD 3, flagI := v.getLsbD 2, flagZ := v.getLsbD 1,
       flagC := v.getLsbD 0, sp := s.sp + 1, pc := s.pc + 1, cycles := s.cycles + 4 })

/-- Each of the seven (the encodings of their rules, one byte, 2 cycles) answers a next state in which its flag is cleared or set and nothing else but PC and cycles changes, whatever DECIMAL_ENABLED. -/
def Obligations.FlagInstructionsWriteOneFlag : Prop :=
  (encodingsOf .CLC = [(0x18, .imp, 2, false)] ∧
    encodingsOf .SEC = [(0x38, .imp, 2, false)] ∧
    encodingsOf .CLI = [(0x58, .imp, 2, false)] ∧
    encodingsOf .SEI = [(0x78, .imp, 2, false)] ∧
    encodingsOf .CLD = [(0xD8, .imp, 2, false)] ∧
    encodingsOf .SED = [(0xF8, .imp, 2, false)] ∧
    encodingsOf .CLV = [(0xB8, .imp, 2, false)]) ∧
  ∀ s : State,
    exec .clc s = .next { s with flagC := false, pc := s.pc + 1, cycles := s.cycles + 2 } ∧
    exec .sec s = .next { s with flagC := true, pc := s.pc + 1, cycles := s.cycles + 2 } ∧
    exec .cli s = .next { s with flagI := false, pc := s.pc + 1, cycles := s.cycles + 2 } ∧
    exec .sei s = .next { s with flagI := true, pc := s.pc + 1, cycles := s.cycles + 2 } ∧
    exec .cld s = .next { s with flagD := false, pc := s.pc + 1, cycles := s.cycles + 2 } ∧
    exec .sed s = .next { s with flagD := true, pc := s.pc + 1, cycles := s.cycles + 2 } ∧
    exec .clv s = .next { s with flagV := false, pc := s.pc + 1, cycles := s.cycles + 2 }

/-- BRK writes the high byte of pc0 + 2 at 0x0100 + S, the low byte one cell below, the status image with bits 5 and 4 set and the old I one below that (each modulo 256 in page 1), leaves S - 3 modulo 256, sets I, and sets PC to the word at 0xFFFE, low byte first, in 7 cycles; A, X, Y, D, N, V, Z, C and every other cell as before; the vector cells read as before the pushes. The image and the vector are the spec's own decisions D5 and D14. -/
def Obligations.BrkEntersTheTrap : Prop :=
  (encodingsOf .BRK = [(0x00, .imp, 7, false)]) ∧
  ∀ s : State,
    let ret := s.pc + 2
    let image : Byte := BitVec.ofNat 8 (s.flagN.toNat * 128 + s.flagV.toNat * 64 + 32 + 16 + s.flagD.toNat * 8 +
      s.flagI.toNat * 4 + s.flagZ.toNat * 2 + s.flagC.toNat)
    let pushed := ((s.write (0x0100 + s.sp.setWidth 16) (page ret)).write (0x0100 + (s.sp - 1).setWidth 16)
      (lowByte ret)).write (0x0100 + (s.sp - 2).setWidth 16) image
    exec .brk s = .next { pushed with
      sp := s.sp - 3
      flagI := true
      pc := BitVec.ofNat 16 ((s.read 0xFFFF).toNat * 256 + (s.read 0xFFFE).toNat)
      cycles := s.cycles + 7 }

/-- RTI loads the six flags from the byte at 0x0100 + (S + 1), ignoring bits 5 and 4, PC from the bytes at S + 2 (low) and S + 3 (high) with nothing added, and leaves S + 3, all modulo 256 in page 1, in 6 cycles; A, X, Y and memory as before. The bit places of the flags and the ignoring of bits 5 and 4 are the spec's own decision D5. -/
def Obligations.RtiRestoresFlagsAndPc : Prop :=
  (encodingsOf .RTI = [(0x40, .imp, 6, false)]) ∧
  ∀ s : State,
    let p := s.read (stackCell (s.sp + 1))
    exec .rti s = .next { s with
      flagN := p.getLsbD 7, flagV := p.getLsbD 6, flagD := p.getLsbD 3
      flagI := p.getLsbD 2, flagZ := p.getLsbD 1, flagC := p.getLsbD 0
      sp := s.sp + 3
      pc := BitVec.ofNat 16 ((s.read (stackCell (s.sp + 3))).toNat * 256 + (s.read (stackCell (s.sp + 2))).toNat)
      cycles := s.cycles + 6 }

/-- In the state a BRK left, with any PC, A, X, Y, any flags and cycle count, RTI answers a next state with PC = pc0 + 2 of the BRK, and all six flags and S as before the BRK. A property of the trap pair, derived from the two rules. -/
def Obligations.RtiUndoesBrk : Prop :=
  ∀ (s t : State), exec .brk s = .next t →
    ∀ (p : Addr) (a x y : Byte) (n v d i z c : Bool) (k : Nat), ∃ u,
      exec .rti { t with pc := p, a := a, x := x, y := y, flagN := n, flagV := v, flagD := d, flagI := i, flagZ := z,
                         flagC := c, cycles := k } = .next u ∧
      u.pc = s.pc + 2 ∧ u.sp = s.sp ∧ u.flagN = s.flagN ∧ u.flagV = s.flagV ∧ u.flagD = s.flagD ∧ u.flagI = s.flagI ∧
      u.flagZ = s.flagZ ∧ u.flagC = s.flagC

/-- Each of the 28 NOP opcodes (the encodings of the two rules) answers a next state in which PC has advanced by the length of its mode and cycles by its base count, one more for abx when the page is crossed; nothing else changes, in every variant. -/
def Obligations.NopsOnlyAdvance : Prop :=
  (encodingsOf .NOP =
      [(0x04, .zp, 3, false), (0x0C, .abs, 4, false), (0x14, .zpx, 4, false), (0x1A, .imp, 2, false),
       (0x1C, .abx, 4, true), (0x34, .zpx, 4, false), (0x3A, .imp, 2, false), (0x3C, .abx, 4, true),
       (0x44, .zp, 3, false), (0x54, .zpx, 4, false), (0x5A, .imp, 2, false), (0x5C, .abx, 4, true),
       (0x64, .zp, 3, false), (0x74, .zpx, 4, false), (0x7A, .imp, 2, false), (0x7C, .abx, 4, true),
       (0x80, .imm, 2, false), (0x82, .imm, 2, false), (0x89, .imm, 2, false), (0xC2, .imm, 2, false),
       (0xD4, .zpx, 4, false), (0xDA, .imp, 2, false), (0xDC, .abx, 4, true), (0xE2, .imm, 2, false),
       (0xEA, .imp, 2, false), (0xF4, .zpx, 4, false), (0xFA, .imp, 2, false), (0xFC, .abx, 4, true)]) ∧
  ∀ (i : Instr) (s : State), i.mnemonic = .NOP →
    exec i s = .next { s with
      pc := s.pc + BitVec.ofNat 16 i.operand.length
      cycles := s.cycles + i.row.cycles + (if i.operand.mode = .abx ∧ pageCrossed i.operand s = true then 1 else 0) }

/-- With UNDOC_MODE = skip every undocumented opcode that is not an unstable store, the twelve JAM among them, answers a next state in which only PC (by its length) and cycles (by its base count and penalty) have changed. The two-value parameter is the spec's own decision D3. -/
def Obligations.SkipModeMakesThemNops : Prop :=
  ∀ (i : Instr) (s : State), i.row.documented = false → i.row.unstableStore = false → s.variant.undocMode = .skip →
    exec i s = .next (defaultEnding i s s)

/-- With UNDOC_MODE = full, each of the 21 constructors answers a next state: the cell at ea holds the shifted or rotated byte r (ASL, ROL with the old carry, LSR), C the bit moved out, A is A or r, A and r, A xor r, N and Z from the new A; V and everything else as before; PC and the fixed cycle count by the default ending. -/
def Obligations.ShiftAndLogicCombinations : Prop :=
  (encodingsOf .SLO =
      [(0x03, .izx, 8, false), (0x07, .zp, 5, false), (0x0F, .abs, 6, false), (0x13, .izy, 8, false),
       (0x17, .zpx, 6, false), (0x1B, .aby, 7, false), (0x1F, .abx, 7, false)] ∧
    encodingsOf .RLA =
      [(0x23, .izx, 8, false), (0x27, .zp, 5, false), (0x2F, .abs, 6, false), (0x33, .izy, 8, false),
       (0x37, .zpx, 6, false), (0x3B, .aby, 7, false), (0x3F, .abx, 7, false)] ∧
    encodingsOf .SRE =
      [(0x43, .izx, 8, false), (0x47, .zp, 5, false), (0x4F, .abs, 6, false), (0x53, .izy, 8, false),
       (0x57, .zpx, 6, false), (0x5B, .aby, 7, false), (0x5F, .abx, 7, false)]) ∧
  ∀ (i : Instr) (s : State), i.mnemonic ∈ [Mnemonic.SLO, .RLA, .SRE] → s.variant.undocMode = .full →
    let m := s.read (effAddr i.operand s)
    let r : Byte := BitVec.ofNat 8
      (if i.mnemonic = .SLO then m.toNat * 2 % 256
       else if i.mnemonic = .RLA then m.toNat * 2 % 256 + s.flagC.toNat
       else m.toNat / 2)
    let c := if i.mnemonic = .SRE then decide (m.toNat % 2 = 1) else decide (m.toNat ≥ 128)
    let a := if i.mnemonic = .SLO then s.a ||| r else if i.mnemonic = .RLA then s.a &&& r else s.a ^^^ r
    exec i s = .next (defaultEnding i s
      { s.write (effAddr i.operand s) r with
        a := a, flagC := c, flagN := a.getLsbD 7, flagZ := decide (a = 0) })

/-- With UNDOC_MODE = full: RRA writes the rotated byte r to ea and adds it to A with the bit rotated out as carry, decimal when D and DECIMAL_ENABLED; DCP writes the decremented byte and compares A with it, A and V unchanged; ISC writes the incremented byte and subtracts it from A, decimal when D and DECIMAL_ENABLED. N, V, Z, C as ADC, CMP, SBC leave them; PC and cycles by the default ending; nothing else changes. The decimal formulas are the spec's own decision D15. -/
def Obligations.RotateAddAndIncrementSubtract : Prop :=
  (encodingsOf .RRA =
      [(0x63, .izx, 8, false), (0x67, .zp, 5, false), (0x6F, .abs, 6, false), (0x73, .izy, 8, false),
       (0x77, .zpx, 6, false), (0x7B, .aby, 7, false), (0x7F, .abx, 7, false)] ∧
    encodingsOf .DCP =
      [(0xC3, .izx, 8, false), (0xC7, .zp, 5, false), (0xCF, .abs, 6, false), (0xD3, .izy, 8, false),
       (0xD7, .zpx, 6, false), (0xDB, .aby, 7, false), (0xDF, .abx, 7, false)] ∧
    encodingsOf .ISC =
      [(0xE3, .izx, 8, false), (0xE7, .zp, 5, false), (0xEF, .abs, 6, false), (0xF3, .izy, 8, false),
       (0xF7, .zpx, 6, false), (0xFB, .aby, 7, false), (0xFF, .abx, 7, false)]) ∧
  ∀ (i : Instr) (s : State), s.variant.undocMode = .full →
    let ea := effAddr i.operand s
    let m := s.read ea
    let decimal := decide (s.flagD = true ∧ s.variant.decimalEnabled = true)
    (i.mnemonic = .RRA →
      let r : Byte := BitVec.ofNat 8 (m.toNat / 2 + 128 * s.flagC.toNat)
      let c := decide (m.toNat % 2 = 1)
      let q := if decimal = true then addDecimal s.a r c else addBinary s.a r c
      exec i s = .next (defaultEnding i s
        { s.write ea r with a := q.value, flagN := q.n, flagV := q.v, flagZ := q.z, flagC := q.c })) ∧
    (i.mnemonic = .DCP →
      let r : Byte := BitVec.ofNat 8 (m.toNat + 255)
      exec i s = .next (defaultEnding i s
        { s.write ea r with flagC := decide (s.a.toNat ≥ r.toNat), flagZ := decide (s.a = r)
                            flagN := decide ((s.a.toNat + 256 - r.toNat) % 256 ≥ 128) })) ∧
    (i.mnemonic = .ISC →
      let r : Byte := BitVec.ofNat 8 (m.toNat + 1)
      let q := subtract decimal s.a r s.flagC
      exec i s = .next (defaultEnding i s
        { s.write ea r with a := q.value, flagN := q.n, flagV := q.v, flagZ := q.z, flagC := q.c }))

/-- With UNDOC_MODE = full: SAX writes A and X to the cell at ea, no flag and no register; LAX loads A and X with the operand byte, N and Z from it; PC and cycles by the default ending; nothing else changes. -/
def Obligations.SaxStoresAndLaxLoadsBoth : Prop :=
  (encodingsOf .SAX =
      [(0x83, .izx, 6, false), (0x87, .zp, 3, false), (0x8F, .abs, 4, false), (0x97, .zpy, 4, false)] ∧
    encodingsOf .LAX =
      [(0xA3, .izx, 6, false), (0xA7, .zp, 3, false), (0xAF, .abs, 4, false), (0xB3, .izy, 5, true),
       (0xB7, .zpy, 4, false), (0xBF, .aby, 4, true)]) ∧
  ∀ (i : Instr) (s : State), s.variant.undocMode = .full →
    (i.mnemonic = .SAX →
      exec i s = .next (defaultEnding i s (s.write (effAddr i.operand s) (s.a &&& s.x)))) ∧
    (i.mnemonic = .LAX →
      let m := operandByte i.operand s
      exec i s = .next (defaultEnding i s
        { s with a := m, x := m, flagN := m.getLsbD 7, flagZ := decide (m = 0) }))

/-- With UNDOC_MODE = full: ANC sets A to A and M, with N, Z and C = N; ALR sets A to (A and M) div 2, C its old bit 0, N = 0, Z; SBX sets X to (A and X) - M modulo 256, C whether A and X is at least M, N, Z, A and V unchanged and the old carry not used; LAS sets A, X and S to M and S, with N and Z, in 4 cycles and one more when crossed. Nothing else changes but PC and cycles. -/
def Obligations.ImmediateCombinations : Prop :=
  (encodingsOf .ANC =
      [(0x0B, .imm, 2, false), (0x2B, .imm, 2, false)] ∧
    encodingsOf .ALR = [(0x4B, .imm, 2, false)] ∧
    encodingsOf .SBX = [(0xCB, .imm, 2, false)] ∧
    encodingsOf .LAS = [(0xBB, .aby, 4, true)]) ∧
  ∀ (i : Instr) (s : State), s.variant.undocMode = .full →
    let m := operandByte i.operand s
    (i.mnemonic = .ANC →
      let r := s.a &&& m
      exec i s = .next (defaultEnding i s
        { s with a := r, flagN := r.getLsbD 7, flagZ := decide (r = 0), flagC := r.getLsbD 7 })) ∧
    (i.mnemonic = .ALR →
      let t := s.a &&& m
      let r : Byte := BitVec.ofNat 8 (t.toNat / 2)
      exec i s = .next (defaultEnding i s
        { s with a := r, flagN := false, flagZ := decide (t.toNat < 2), flagC := decide (t.toNat % 2 = 1) })) ∧
    (i.mnemonic = .SBX →
      let t := s.a &&& s.x
      let r : Byte := BitVec.ofNat 8 (t.toNat + 256 - m.toNat)
      exec i s = .next (defaultEnding i s
        { s with x := r, flagN := decide (r.toNat ≥ 128), flagZ := decide (t = m), flagC := decide (t.toNat ≥ m.toNat) })) ∧
    (i.mnemonic = .LAS →
      let v := m &&& s.sp
      exec i s = .next (defaultEnding i s
        { s with a := v, x := v, sp := v, flagN := v.getLsbD 7, flagZ := decide (v = 0) }))

/-- With UNDOC_MODE = full: USBC answers what SBC immediate answers. ARR rotates t = A and M right through the carry to r; in binary mode A is r, N and Z from it, C its bit 6, V bit 6 xor bit 5; in decimal mode N is the old carry, Z from r, V bit 6 of t xor r, then the low nibble plus 6 when t[3:0] + t[0] > 5, and C = 1 with 0x60 added when t[7:4] + t[4] > 5, else C = 0. Nothing else changes but PC and cycles. The decimal form is the spec's own decision D15. -/
def Obligations.ArrAndUsbcUseTheAdder : Prop :=
  (encodingsOf .ARR = [(0x6B, .imm, 2, false)] ∧
    encodingsOf .USBC = [(0xEB, .imm, 2, false)]) ∧
  ∀ (d : Byte) (s : State), s.variant.undocMode = .full →
    exec (.usbcImm d) s = exec (.sbcImm d) s ∧
    (let t := s.a &&& d
     let r := t.toNat / 2 + 128 * s.flagC.toNat
     let bit (v k : Nat) : Nat := v / 2 ^ k % 2
     if s.flagD = true ∧ s.variant.decimalEnabled = true then
       let r1 := if t.toNat % 16 + bit t.toNat 0 > 5 then r / 16 * 16 + (r + 6) % 16 else r
       let fix := decide (t.toNat / 16 + bit t.toNat 4 > 5)
       exec (.arrImm d) s = .next { s with
         a := BitVec.ofNat 8 (if fix = true then r1 + 0x60 else r1)
         flagN := s.flagC, flagZ := decide (r = 0), flagV := decide (bit t.toNat 6 ≠ bit r 6), flagC := fix
         pc := s.pc + 2, cycles := s.cycles + 2 }
     else
       exec (.arrImm d) s = .next { s with
         a := BitVec.ofNat 8 r
         flagN := decide (r ≥ 128), flagZ := decide (r = 0), flagC := decide (bit r 6 = 1)
         flagV := decide (bit r 6 ≠ bit r 5)
         pc := s.pc + 2, cycles := s.cycles + 2 })

/-- With UNDOC_MODE = full: ANE sets A to (A or ANE_MAGIC) and X and M; LXA sets A and X to (A or LXA_MAGIC) and M; N and Z from the result; nothing else changes but PC and cycles. The two constants are free values (assumption logs 6 and 7, decision D11): the statement holds for every value of them. With M = 0, or with A = 0xFF, the result of ANE does not depend on the constant. -/
def Obligations.AneAndLxaUseTheUnknownConstants : Prop :=
  (encodingsOf .ANE = [(0x8B, .imm, 2, false)] ∧
    encodingsOf .LXA = [(0xAB, .imm, 2, false)]) ∧
  ∀ (d : Byte) (s : State), s.variant.undocMode = .full →
    (let r := (s.a ||| Config.aneMagic) &&& s.x &&& d
     exec (.aneImm d) s = .next { s with
       a := r, flagN := r.getLsbD 7, flagZ := decide (r = 0), pc := s.pc + 2, cycles := s.cycles + 2 }) ∧
    (let r := (s.a ||| Config.lxaMagic) &&& d
     exec (.lxaImm d) s = .next { s with
       a := r, x := r, flagN := r.getLsbD 7, flagZ := decide (r = 0), pc := s.pc + 2, cycles := s.cycles + 2 }) ∧
    (d = 0 → ∃ t, exec (.aneImm d) s = .next t ∧ t.a = 0) ∧
    (s.a = 0xFF → ∃ t, exec (.aneImm d) s = .next t ∧ t.a = s.x &&& d)

/-- With UNDOC_MODE = full, each of the twelve JAM opcodes answers a next state in which only cycles has grown by 2; and where the opcode at PC is a JAM, any number k of steps leaves every register, flag and cell as it was, with cycles grown by 2 k and, from the first step on, lastPC equal to PC. The self-loop and its 2 cycles are the spec's own decision D9. -/
def Obligations.JamLoopsOnItself : Prop :=
  (encodingsOf .JAM =
      [(0x02, .imp, 2, false), (0x12, .imp, 2, false), (0x22, .imp, 2, false), (0x32, .imp, 2, false),
       (0x42, .imp, 2, false), (0x52, .imp, 2, false), (0x62, .imp, 2, false), (0x72, .imp, 2, false),
       (0x92, .imp, 2, false), (0xB2, .imp, 2, false), (0xD2, .imp, 2, false), (0xF2, .imp, 2, false)]) ∧
  (∀ (i : Instr) (s : State), i.mnemonic = .JAM → s.variant.undocMode = .full →
    exec i s = .next { s with cycles := s.cycles + 2 }) ∧
  (∀ (k : Nat) (s : State), (opcodeRow (s.read s.pc)).mnemonic = .JAM → s.variant.undocMode = .full →
    Host.Core.run Sys2Proof.core k s =
      .next { s with cycles := s.cycles + 2 * k, lastPC := if k = 0 then s.lastPC else s.pc })

/-- Each of the five opcodes answers a next state in every variant: the cell at ea holds reg and latched, where latched is the page of ea when the page is crossed and that plus one modulo 256 otherwise, and reg is A and X (SHA, TAS), X (SHX), Y (SHY); TAS also sets S to A and X; no flag, no other register, no other cell changes; PC and the fixed base cycles by the default ending. The latch at 0xFF and the address when crossed are the spec's own decision D10. -/
def Obligations.UnstableStoresAndTheLatchedByte : Prop :=
  (encodingsOf .SHA =
      [(0x93, .izy, 6, false), (0x9F, .aby, 5, false)] ∧
    encodingsOf .SHX = [(0x9E, .aby, 5, false)] ∧
    encodingsOf .SHY = [(0x9C, .abx, 5, false)] ∧
    encodingsOf .TAS = [(0x9B, .aby, 5, false)]) ∧
  ∀ (i : Instr) (s : State),
    let ea := effAddr i.operand s
    let latched := if pageCrossed i.operand s = true then ea.toNat / 256 else (ea.toNat / 256 + 1) % 256
    let mask : Byte := BitVec.ofNat 8 latched
    (i.mnemonic = .SHA → exec i s = .next (defaultEnding i s (s.write ea (s.a &&& s.x &&& mask)))) ∧
    (i.mnemonic = .SHX → exec i s = .next (defaultEnding i s (s.write ea (s.x &&& mask)))) ∧
    (i.mnemonic = .SHY → exec i s = .next (defaultEnding i s (s.write ea (s.y &&& mask)))) ∧
    (i.mnemonic = .TAS →
      exec i s = .next (defaultEnding i s { s.write ea (s.a &&& s.x &&& mask) with sp := s.a &&& s.x }))

/-- For abx, aby and izy the latched byte is (page(base) + 1) mod 256, crossed or not, as the spec derives it; so two SHX with X = 0xFF and one target, the one crossed and the other not, store different bytes there, and with X = 0 both store 0x00 there. That the latch of a base page 0xFF not crossed wraps to 0, and that a crossed store lands at the intended address, are the spec's own decision D10. -/
def Obligations.LatchedByteIsBasePagePlusOne : Prop :=
  (∀ (w : Addr) (s : State),
    latchedByte (.abx w) s = page w + 1 ∧ latchedByte (.aby w) s = page w + 1) ∧
  (∀ (d : Byte) (s : State), latchedByte (.izy d) s = page (zeroPagePointer d s) + 1) ∧
  (∀ (w w' : Addr) (s s' t t' : State), exec (.shxAby w) s = .next t → exec (.shxAby w') s' = .next t' →
    effAddr (.aby w) s = effAddr (.aby w') s' → pageCrossed (.aby w) s = false → pageCrossed (.aby w') s' = true →
      (s.x = 0xFF → s'.x = 0xFF → t.read (effAddr (.aby w) s) ≠ t'.read (effAddr (.aby w) s)) ∧
      (s.x = 0x00 → s'.x = 0x00 →
        t.read (effAddr (.aby w) s) = 0x00 ∧ t'.read (effAddr (.aby w) s) = 0x00))

/-- For every instruction other than ADC, SBC, RRA, ISC, USBC, ARR, and for these too when D is 0, changing DECIMAL_ENABLED before the instruction or after it comes to the same: no other instruction depends on it. The source's cross-variant property; that the variant is a field of the state is the model's choice (assumption log 4). -/
def Obligations.DecimalVariantsAgreeElsewhere : Prop :=
  ∀ (i : Instr) (s : State) (b : Bool), i.mnemonic ∉ decimalInstructions ∨ s.flagD = false →
    exec i { s with variant := { s.variant with decimalEnabled := b } } =
      mapNext (fun t => { t with variant := { t.variant with decimalEnabled := b } }) (exec i s)

/-- For each of the five unstable-store opcodes, setting the variant to any other before the instruction or after it comes to the same; and so for UNDOC_MODE and every documented opcode. The two values of UNDOC_MODE, and that they concern undocumented opcodes only, are the spec's own decision D3; that the variant is a field of the state is the model's choice (assumption log 4). -/
def Obligations.UnstableStoresAreVariantIndependent : Prop :=
  (∀ (i : Instr) (s : State) (v : Variant), i.opcode ∈ [0x93, 0x9F, 0x9E, 0x9C, 0x9B] →
    exec i { s with variant := v } = mapNext (fun t => { t with variant := v }) (exec i s)) ∧
  (∀ (i : Instr) (s : State) (u : UndocMode), i.row.documented = true →
    exec i { s with variant := { s.variant with undocMode := u } } =
      mapNext (fun t => { t with variant := { t.variant with undocMode := u } }) (exec i s))

/-- For every instruction and every state exec answers a next state, and for every state step does: the hardware raises no synchronous exception. -/
def Obligations.EveryInstructionAndStepCompletes : Prop :=
  (∀ (i : Instr) (s : State), ∃ t, exec i s = .next t) ∧ (∀ s : State, ∃ t, step s = .next t)

/-- For every instruction that is no branch, cycles grows by the base count of its row, and by one more exactly when the row has the penalty and the page is crossed; a branch costs 2 not taken, 3 taken to the page of the next instruction, 4 to another; the cost always lies between 2 and 8. The branch rule is the spec's own decision D19. -/
def Obligations.CostOfEveryInstruction : Prop :=
  ∀ (i : Instr) (s t : State), exec i s = .next t →
    (i.mnemonic ∉ branches →
      t.cycles = s.cycles + i.row.cycles +
        (if i.row.pageCrossPenalty = true ∧ pageCrossed i.operand s = true then 1 else 0)) ∧
    (i.mnemonic ∈ branches →
      t.cycles = s.cycles +
        (if branchCondition i.mnemonic s = false then 2
         else if page (effAddr i.operand s) = page (s.pc + 2) then 3 else 4)) ∧
    s.cycles + 2 ≤ t.cycles ∧ t.cycles ≤ s.cycles + 8

/-- For every instruction other than the branches, JMP, JSR, RTS, BRK, RTI and JAM (and for JAM too in skip mode), PC becomes (pc0 + len) mod 65536, with len 1, 2 or 3; an instruction whose opcode is at 0xFFFF takes its operand bytes from 0x0000 and 0x0001. What the control transfers set is in their own statements. That JAM advances in skip mode is the spec's own decision D3. -/
def Obligations.PcAdvancesByTheLength : Prop :=
  (∀ (i : Instr) (s t : State), exec i s = .next t →
    (i.mnemonic ∉ controlTransfers ∨ (i.mnemonic = .JAM ∧ s.variant.undocMode = .skip)) →
      t.pc.toNat = (s.pc.toNat + i.operand.length) % 65536 ∧ i.operand.length ∈ [1, 2, 3]) ∧
  (∀ s : State, s.pc = 0xFFFF → s.fetch = decodeBytes (s.read 0xFFFF) (s.read 0x0000) (s.read 0x0001))

/-- For every instruction: A is unchanged unless the mnemonic is a writer of A or a shift in the accumulator form; X, Y and S unless it is one of their writers; exec never changes lastPC nor the variant. The lists are read from the instruction rules. -/
def Obligations.RegisterFrame : Prop :=
  ∀ (i : Instr) (s t : State), exec i s = .next t →
    (i.mnemonic ∉ writersOfA → ¬ (i.mnemonic ∈ shifts ∧ i.operand = .acc) → t.a = s.a) ∧
    (i.mnemonic ∉ writersOfX → t.x = s.x) ∧
    (i.mnemonic ∉ writersOfY → t.y = s.y) ∧
    (i.mnemonic ∉ writersOfS → t.sp = s.sp) ∧
    t.lastPC = s.lastPC ∧ t.variant = s.variant

/-- For every instruction and each of the six flags: if the mnemonic is not in the flag's row of the table of writers in 10_state.md section 2 (which the spec derives from the instruction rules), the flag is unchanged. -/
def Obligations.FlagFrame : Prop :=
  ∀ (i : Instr) (s t : State), exec i s = .next t →
    (i.mnemonic ∉ writersOfC → t.flagC = s.flagC) ∧
    (i.mnemonic ∉ writersOfNZ → t.flagZ = s.flagZ ∧ t.flagN = s.flagN) ∧
    (i.mnemonic ∉ writersOfI → t.flagI = s.flagI) ∧
    (i.mnemonic ∉ writersOfD → t.flagD = s.flagD) ∧
    (i.mnemonic ∉ writersOfV → t.flagV = s.flagV)

/-- For every instruction and every address: if the address is not one the instruction stores to (the cell at ea of a store or a read-modify-write form, computed in the state before; the stack cells of a push; none for any other form), it reads after as it read before. -/
def Obligations.MemoryFrame : Prop :=
  ∀ (i : Instr) (s t : State), exec i s = .next t →
    ∀ p : Addr, p ∉ storedCells i s → t.read p = s.read p

/-- From every state whose memory is in canonical form (addresses strictly rising and below 65536, no cell listed that holds what an unlisted cell reads as) a step that answers a next state leaves it so, and leaves the variant as it was. The form is the model's own representation of the 65536 cells (assumption log 2). -/
def Obligations.StepKeepsTheMemoryCanonical : Prop :=
  ∀ s t : State, MemoryCanonical s → step s = .next t → MemoryCanonical t ∧ t.variant = s.variant

/-- State.reset meets the invariant that every step keeps. The canonical form and the memory of State.reset, which lists no cell, are the model's own choices (assumption logs 2 and 3), no sentence of the spec. -/
def Obligations.ResetMeetsTheInvariant : Prop :=
  MemoryCanonical State.reset

/-- At creation, for every REG_INIT, every MEM_INIT and every variant, the registers hold REG_INIT, every cell holds its MEM_INIT, cycles is 0, the variant is the one given, and the memory is in the model's canonical form. hostReset leaves S - 3 modulo 256, I = 1, PC the word at 0xFFFC low byte first, cycles = 0, and changes nothing else: D and lastPC are as before, and so is every cell. State.reset is hostReset of the creation whose registers are zero, whose cells are zero and whose variant is the full NMOS 6502: these three are the model's choice (assumption logs 1 to 3, 5). The sequence and the vector are the spec's own decisions D13 and D14, the open parameters D7 and D8. -/
def Obligations.ResetOperation : Prop :=
  (∀ (r : RegInit) (memInit : MemInit) (v : Variant),
    let s := State.creation r memInit v
    (∀ p : Addr, s.read p = memInit p) ∧ MemoryCanonical s ∧ s.cycles = 0 ∧ s.variant = v ∧
    s.a = r.a ∧ s.x = r.x ∧ s.y = r.y ∧ s.sp = r.sp ∧ s.pc = r.pc ∧ s.lastPC = r.lastPC ∧ s.flagN = r.flagN ∧
    s.flagV = r.flagV ∧ s.flagD = r.flagD ∧ s.flagI = r.flagI ∧ s.flagZ = r.flagZ ∧ s.flagC = r.flagC) ∧
  (∀ s : State, s.hostReset = { s with
    sp := BitVec.ofNat 8 (s.sp.toNat + 253)
    flagI := true
    pc := BitVec.ofNat 16 ((s.read 0xFFFD).toNat * 256 + (s.read 0xFFFC).toNat)
    cycles := 0 }) ∧
  State.reset = (State.creation ⟨0, 0, 0, 0, false, false, false, false, false, false, 0, 0⟩ (fun _ => 0x00)
    { decimalEnabled := true, undocMode := .full }).hostReset ∧ State.reset.flagI = true ∧ State.reset.cycles = 0

/-- For at most 65536 bytes at any base, inspecting as many bytes from that base after the seed gives them; byte k stands at (base + k) modulo 65536; every cell that is none of these reads as before; seeding changes no register, no flag and not cycles; inspecting any range n gives the cell at (base + k) modulo 65536 for each k below n. -/
def Obligations.SeedThenInspect : Prop :=
  (∀ (s : State) (base : Addr) (bytes : List Byte), bytes.length ≤ 65536 →
    (s.seed base bytes).inspect base bytes.length = bytes ∧
    (∀ p : Addr, (∀ k, k < bytes.length → p ≠ base + BitVec.ofNat 16 k) → (s.seed base bytes).read p = s.read p)) ∧
  (∀ (s : State) (base : Addr) (bytes : List Byte), ∃ m, s.seed base bytes = { s with mem := m }) ∧
  (∀ (s : State) (base : Addr) (n k : Nat), k < n →
    (s.inspect base n)[k]? = some (s.read (BitVec.ofNat 16 ((base.toNat + k) % 65536))))

/-- Setting A, X, Y or S to v sets that register to v modulo 256, PC to v modulo 65536, the status flags to bits 7, 6, 3, 2, 1, 0 of v, and leaves every other register and flag, lastPC, cycles, memory and the variant as they were; getting the register then gives v modulo 256, v modulo 65536, and for the status v modulo 256 with bit 5 set and bit 4 clear; lastPC cannot be set; getting each other register gives its value. Bits 5 and 4 are the spec's own decision D5. -/
def Obligations.HostRegisterAccess : Prop :=
  ∀ (s : State) (v : Nat),
    s.setReg .A v = some { s with a := BitVec.ofNat 8 v } ∧
    s.setReg .X v = some { s with x := BitVec.ofNat 8 v } ∧
    s.setReg .Y v = some { s with y := BitVec.ofNat 8 v } ∧
    s.setReg .S v = some { s with sp := BitVec.ofNat 8 v } ∧
    s.setReg .PC v = some { s with pc := BitVec.ofNat 16 v } ∧
    s.setReg .status v = some { s with
      flagN := v.testBit 7, flagV := v.testBit 6, flagD := v.testBit 3
      flagI := v.testBit 2, flagZ := v.testBit 1, flagC := v.testBit 0 } ∧
    s.setReg .lastPC v = none ∧
    (∀ r ∈ [HostReg.A, .X, .Y, .S], ∀ t, s.setReg r v = some t → t.getReg r = v % 256) ∧
    (∀ t, s.setReg .PC v = some t → t.getReg .PC = v % 65536) ∧
    (∀ t, s.setReg .status v = some t → t.getReg .status = (v % 256 &&& 0xCF) + 32) ∧
    s.getReg .A = s.a.toNat ∧ s.getReg .X = s.x.toNat ∧ s.getReg .Y = s.y.toNat ∧ s.getReg .S = s.sp.toNat ∧
    s.getReg .PC = s.pc.toNat ∧ s.getReg .lastPC = s.lastPC.toNat ∧ s.getReg .status = (s.statusImage false).toNat

/-- From every state run(N) answers a next state; the cycles elapsed since the call are at least N and, for N at least 1, at most N + 7; run(0) leaves the state as it is; the state run leaves is that of some number of whole steps, at most N, and one at least when N is at least 1; after every smaller number of steps fewer than N cycles had elapsed, so that it stops at the first boundary that meets the budget and run(1) is exactly one step. The lower-bound reading is the spec's resolution C1, the budget its decision D16. -/
def Obligations.RunMeetsItsBudget : Prop :=
  ∀ (budget : Nat) (s : State), ∃ (t : State) (k : Nat),
    run budget s = .next t ∧ Host.Core.run Sys2Proof.core k s = .next t ∧ k ≤ budget ∧
      (budget = 0 → t = s) ∧ (1 ≤ budget → 1 ≤ k) ∧
      (∀ j, j < k → ∃ u : State, Host.Core.run Sys2Proof.core j s = .next u ∧ u.cycles < s.cycles + budget) ∧
      s.cycles + budget ≤ t.cycles ∧ (1 ≤ budget → t.cycles ≤ s.cycles + budget + 7) ∧ (budget = 1 → k = 1)
end

