-- ==== Sys2Proof/Laws/Memory.lean ====
section
/-! SUPPORT. The laws of memory: a read after a write (R53, R54, R62), that every operation keeps the canonical form, and
that canonical memories with the same reads are equal. -/

namespace Sys2Proof.Machine

@[simp] theorem Memory.read_nil (a : Nat) : Memory.read [] a = unlistedByte := rfl

theorem Memory.read_cons (b : Nat) (w : Byte) (rest : Memory) (a : Nat) :
    Memory.read ((b, w) :: rest) a = if a = b then w else Memory.read rest a := rfl

/-! ## Reads after an erase, an insertion, a write -/

theorem Memory.read_erase_self (m : Memory) (a : Nat) : (Memory.erase m a).read a = unlistedByte := by
  induction m with
  | nil => rfl
  | cons c rest ih =>
    obtain ⟨b, w⟩ := c
    by_cases h : a = b
    · simpa [Memory.erase, h] using h ▸ ih
    · simpa [Memory.erase, Memory.read_cons, h] using ih

theorem Memory.read_erase_other (m : Memory) {a p : Nat} (h : p ≠ a) : (Memory.erase m a).read p = m.read p := by
  induction m with
  | nil => rfl
  | cons c rest ih =>
    obtain ⟨b, w⟩ := c
    by_cases hb : a = b
    · subst hb
      simpa [Memory.erase, Memory.read_cons, h] using ih
    · simp [Memory.erase, Memory.read_cons, hb, ih]

/-- Inserting a cell that the memory does not list: it reads as inserted, and every other cell as before. -/
theorem Memory.read_insert_erase (m : Memory) (a p : Nat) (v : Byte) :
    (Memory.insert (Memory.erase m a) a v).read p = if p = a then v else (Memory.erase m a).read p := by
  induction m with
  | nil => simp [Memory.erase, Memory.insert, Memory.read_cons]
  | cons c rest ih =>
    obtain ⟨b, w⟩ := c
    by_cases hb : a = b
    · simpa [Memory.erase, hb] using hb ▸ ih
    · simp only [Memory.erase, hb, if_false]
      by_cases hlt : a < b
      · simp [Memory.insert, Memory.read_cons, hlt]
      · simp only [Memory.insert, Memory.read_cons, hlt, if_false, ih]
        by_cases hp : p = b
        · have hpa : p ≠ a := fun e => hb (e ▸ hp)
          simp [hp, hp ▸ hpa]
        · simp [hp]

/-- Reading any cell after a write (R53, R54). -/
theorem Memory.read_write (m : Memory) (a p : Nat) (v : Byte) :
    (Memory.write m a v).read p = if p = a then v else m.read p := by
  unfold Memory.write
  by_cases hp : p = a
  · subst hp
    by_cases hv : v = unlistedByte
    · simp [hv, Memory.read_erase_self]
    · simp [hv, Memory.read_insert_erase]
  · by_cases hv : v = unlistedByte
    · simp [hv, hp, Memory.read_erase_other m hp]
    · simp [hv, hp, Memory.read_insert_erase, Memory.read_erase_other m hp]

/-! ## The canonical form -/

@[simp] theorem Memory.wf_nil : Memory.wf [] = true := rfl

theorem Memory.wfFrom_cons (low a : Nat) (v : Byte) (rest : Memory) :
    Memory.wfFrom low ((a, v) :: rest) = true ↔
      low ≤ a ∧ a < memorySize ∧ v ≠ unlistedByte ∧ Memory.wfFrom (a + 1) rest = true := by
  simp [Memory.wfFrom, and_assoc]

theorem Memory.wfFrom_mono {low low' : Nat} (h : low' ≤ low) :
    (m : Memory) → Memory.wfFrom low m = true → Memory.wfFrom low' m = true
  | [], _ => rfl
  | (a, v) :: rest, hm => by
    rw [Memory.wfFrom_cons] at hm ⊢
    exact ⟨h.trans hm.1, hm.2⟩

theorem Memory.wfFrom_erase (a : Nat) :
    (m : Memory) → (low : Nat) → Memory.wfFrom low m = true → Memory.wfFrom low (Memory.erase m a) = true
  | [], _, _ => rfl
  | (b, w) :: rest, low, hm => by
    rw [Memory.wfFrom_cons] at hm
    have ih := Memory.wfFrom_erase a rest (b + 1) hm.2.2.2
    by_cases hb : a = b
    · simp only [Memory.erase, hb, if_true]
      exact hb ▸ Memory.wfFrom_mono (by omega) _ ih
    · simp only [Memory.erase, hb, if_false]
      rw [Memory.wfFrom_cons]
      exact ⟨hm.1, hm.2.1, hm.2.2.1, ih⟩

theorem Memory.wfFrom_insert_erase {a : Nat} {v : Byte} (ha : a < memorySize) (hv : v ≠ unlistedByte) :
    (m : Memory) → (low : Nat) → low ≤ a → Memory.wfFrom low m = true →
      Memory.wfFrom low (Memory.insert (Memory.erase m a) a v) = true
  | [], low, hlow, _ => by
    simp only [Memory.erase, Memory.insert]
    rw [Memory.wfFrom_cons]
    exact ⟨hlow, ha, hv, rfl⟩
  | (b, w) :: rest, low, hlow, hm => by
    rw [Memory.wfFrom_cons] at hm
    by_cases hb : a = b
    · simp only [Memory.erase, hb, if_true]
      exact hb ▸ Memory.wfFrom_insert_erase ha hv rest low hlow (Memory.wfFrom_mono (by omega) _ hm.2.2.2)
    · simp only [Memory.erase, hb, if_false, Memory.insert]
      by_cases hlt : a < b
      · simp only [hlt, if_true]
        rw [Memory.wfFrom_cons, Memory.wfFrom_cons]
        exact ⟨hlow, ha, hv, by omega, hm.2.1, hm.2.2.1, Memory.wfFrom_erase a rest (b + 1) hm.2.2.2⟩
      · simp only [hlt, if_false]
        rw [Memory.wfFrom_cons]
        exact ⟨hm.1, hm.2.1, hm.2.2.1, Memory.wfFrom_insert_erase ha hv rest (b + 1) (by omega) hm.2.2.2⟩

/-- A write inside the address space keeps the canonical form. -/
theorem Memory.write_wf {m : Memory} (hm : m.wf = true) {a : Nat} (ha : a < memorySize) (v : Byte) :
    (Memory.write m a v).wf = true := by
  unfold Memory.write
  by_cases hv : v = unlistedByte
  · rw [if_pos hv]
    exact Memory.wfFrom_erase a m 0 hm
  · rw [if_neg hv]
    exact Memory.wfFrom_insert_erase ha hv m 0 (Nat.zero_le a) hm

/-! ## The memory at creation -/

/-- Filled cells are in canonical form. -/
theorem Memory.fill_wfFrom (f : Nat → Byte) :
    (count addr : Nat) → addr + count ≤ memorySize → Memory.wfFrom addr (Memory.fill f count addr) = true
  | 0, _, _ => rfl
  | count + 1, addr, h => by
    have ih := Memory.fill_wfFrom f count (addr + 1) (by omega)
    unfold Memory.fill
    split
    · exact Memory.wfFrom_mono (by omega) _ ih
    · next hv =>
      rw [Memory.wfFrom_cons]
      exact ⟨Nat.le_refl addr, by omega, hv, ih⟩

/-- A filled cell reads as `f` says, a cell outside the filled range as an unlisted one. -/
theorem Memory.read_fill (f : Nat → Byte) (p : Nat) :
    (count addr : Nat) →
      (Memory.fill f count addr).read p = if addr ≤ p ∧ p < addr + count then f p else unlistedByte
  | 0, addr => by
    rw [Memory.fill, Memory.read_nil, if_neg (by omega)]
  | count + 1, addr => by
    have ih := Memory.read_fill f p count (addr + 1)
    by_cases hp : p = addr
    · subst hp
      rw [if_neg (by omega)] at ih
      rw [if_pos (by omega)]
      unfold Memory.fill
      split
      · next hv => rw [ih, hv]
      · rw [Memory.read_cons, if_pos rfl]
    · have hiff : (addr + 1 ≤ p ∧ p < addr + 1 + count) ↔ (addr ≤ p ∧ p < addr + (count + 1)) := by omega
      unfold Memory.fill
      split
      · rw [ih, if_congr hiff rfl rfl]
      · rw [Memory.read_cons, if_neg hp, ih, if_congr hiff rfl rfl]

/-- Filling with the byte of an unlisted cell lists nothing. -/
theorem Memory.fill_unlisted : (count addr : Nat) → Memory.fill (fun _ => unlistedByte) count addr = []
  | 0, _ => rfl
  | count + 1, addr => by
    rw [Memory.fill, if_pos rfl]
    exact Memory.fill_unlisted count (addr + 1)

/-! ## Equal reads, equal memories -/

/-- A cell below the canonical form's lower bound is not listed. -/
theorem Memory.read_below (p : Nat) :
    (m : Memory) → (low : Nat) → p < low → Memory.wfFrom low m = true → m.read p = unlistedByte
  | [], _, _, _ => rfl
  | (b, w) :: rest, low, hp, hm => by
    rw [Memory.wfFrom_cons] at hm
    rw [Memory.read_cons, if_neg (by omega)]
    exact Memory.read_below p rest (b + 1) (by omega) hm.2.2.2

theorem Memory.eq_of_reads_from :
    (m m' : Memory) → (low : Nat) → Memory.wfFrom low m = true → Memory.wfFrom low m' = true →
      (∀ p, m.read p = m'.read p) → m = m'
  | [], [], _, _, _, _ => rfl
  | [], (b, w) :: rest, low, _, hm', h => by
    rw [Memory.wfFrom_cons] at hm'
    have := h b
    simp [Memory.read_cons] at this
    exact absurd this.symm hm'.2.2.1
  | (b, w) :: rest, [], low, hm, _, h => by
    rw [Memory.wfFrom_cons] at hm
    have := h b
    simp [Memory.read_cons] at this
    exact absurd this hm.2.2.1
  | (b, w) :: rest, (b', w') :: rest', low, hm, hm', h => by
    rw [Memory.wfFrom_cons] at hm hm'
    have hb : b = b' := by
      rcases Nat.lt_trichotomy b b' with hlt | heq | hgt
      · have hr := h b
        rw [Memory.read_cons, if_pos rfl, Memory.read_cons, if_neg (by omega),
          Memory.read_below b rest' (b' + 1) (by omega) hm'.2.2.2] at hr
        exact absurd hr hm.2.2.1
      · exact heq
      · have hr := h b'
        rw [Memory.read_cons, if_neg (by omega), Memory.read_below b' rest (b + 1) (by omega) hm.2.2.2,
          Memory.read_cons, if_pos rfl] at hr
        exact absurd hr.symm hm'.2.2.1
    subst hb
    have hw : w = w' := by simpa [Memory.read_cons] using h b
    subst hw
    have hrest : rest = rest' := by
      refine Memory.eq_of_reads_from rest rest' (b + 1) hm.2.2.2 hm'.2.2.2 fun p => ?_
      by_cases hp : p = b
      · rw [hp, Memory.read_below b rest (b + 1) (by omega) hm.2.2.2,
          Memory.read_below b rest' (b + 1) (by omega) hm'.2.2.2]
      · simpa [Memory.read_cons, hp] using h p
    rw [hrest]

/-- Two memories in canonical form that read alike everywhere are the same list. -/
theorem Memory.eq_of_reads {m m' : Memory} (hm : m.wf = true) (hm' : m'.wf = true)
    (h : ∀ p, m.read p = m'.read p) : m = m' :=
  Memory.eq_of_reads_from m m' 0 hm hm' h

end Sys2Proof.Machine
end

