-- ==== Sys2Proof/Laws/State.lean ====
section
/-! SUPPORT. What each register, flag, memory and stack update does to each field of `State`, one lemma per field per
update, and that an update which is no store leaves every read as it was. -/

namespace Sys2Proof.Machine

/-! ### `setA` -/

@[simp] theorem State.setA_a (s : State) (v : Byte) : (s.setA v).a = v := rfl
@[simp] theorem State.setA_x (s : State) (v : Byte) : (s.setA v).x = s.x := rfl
@[simp] theorem State.setA_y (s : State) (v : Byte) : (s.setA v).y = s.y := rfl
@[simp] theorem State.setA_sp (s : State) (v : Byte) : (s.setA v).sp = s.sp := rfl
@[simp] theorem State.setA_flagN (s : State) (v : Byte) : (s.setA v).flagN = s.flagN := rfl
@[simp] theorem State.setA_flagV (s : State) (v : Byte) : (s.setA v).flagV = s.flagV := rfl
@[simp] theorem State.setA_flagD (s : State) (v : Byte) : (s.setA v).flagD = s.flagD := rfl
@[simp] theorem State.setA_flagI (s : State) (v : Byte) : (s.setA v).flagI = s.flagI := rfl
@[simp] theorem State.setA_flagZ (s : State) (v : Byte) : (s.setA v).flagZ = s.flagZ := rfl
@[simp] theorem State.setA_flagC (s : State) (v : Byte) : (s.setA v).flagC = s.flagC := rfl
@[simp] theorem State.setA_pc (s : State) (v : Byte) : (s.setA v).pc = s.pc := rfl
@[simp] theorem State.setA_cycles (s : State) (v : Byte) : (s.setA v).cycles = s.cycles := rfl
@[simp] theorem State.setA_lastPC (s : State) (v : Byte) : (s.setA v).lastPC = s.lastPC := rfl
@[simp] theorem State.setA_mem (s : State) (v : Byte) : (s.setA v).mem = s.mem := rfl
@[simp] theorem State.setA_variant (s : State) (v : Byte) : (s.setA v).variant = s.variant := rfl
@[simp] theorem State.setA_read (s : State) (v : Byte) (p : Addr) : (s.setA v).read p = s.read p := rfl

/-! ### `setX` -/

@[simp] theorem State.setX_a (s : State) (v : Byte) : (s.setX v).a = s.a := rfl
@[simp] theorem State.setX_x (s : State) (v : Byte) : (s.setX v).x = v := rfl
@[simp] theorem State.setX_y (s : State) (v : Byte) : (s.setX v).y = s.y := rfl
@[simp] theorem State.setX_sp (s : State) (v : Byte) : (s.setX v).sp = s.sp := rfl
@[simp] theorem State.setX_flagN (s : State) (v : Byte) : (s.setX v).flagN = s.flagN := rfl
@[simp] theorem State.setX_flagV (s : State) (v : Byte) : (s.setX v).flagV = s.flagV := rfl
@[simp] theorem State.setX_flagD (s : State) (v : Byte) : (s.setX v).flagD = s.flagD := rfl
@[simp] theorem State.setX_flagI (s : State) (v : Byte) : (s.setX v).flagI = s.flagI := rfl
@[simp] theorem State.setX_flagZ (s : State) (v : Byte) : (s.setX v).flagZ = s.flagZ := rfl
@[simp] theorem State.setX_flagC (s : State) (v : Byte) : (s.setX v).flagC = s.flagC := rfl
@[simp] theorem State.setX_pc (s : State) (v : Byte) : (s.setX v).pc = s.pc := rfl
@[simp] theorem State.setX_cycles (s : State) (v : Byte) : (s.setX v).cycles = s.cycles := rfl
@[simp] theorem State.setX_lastPC (s : State) (v : Byte) : (s.setX v).lastPC = s.lastPC := rfl
@[simp] theorem State.setX_mem (s : State) (v : Byte) : (s.setX v).mem = s.mem := rfl
@[simp] theorem State.setX_variant (s : State) (v : Byte) : (s.setX v).variant = s.variant := rfl
@[simp] theorem State.setX_read (s : State) (v : Byte) (p : Addr) : (s.setX v).read p = s.read p := rfl

/-! ### `setY` -/

@[simp] theorem State.setY_a (s : State) (v : Byte) : (s.setY v).a = s.a := rfl
@[simp] theorem State.setY_x (s : State) (v : Byte) : (s.setY v).x = s.x := rfl
@[simp] theorem State.setY_y (s : State) (v : Byte) : (s.setY v).y = v := rfl
@[simp] theorem State.setY_sp (s : State) (v : Byte) : (s.setY v).sp = s.sp := rfl
@[simp] theorem State.setY_flagN (s : State) (v : Byte) : (s.setY v).flagN = s.flagN := rfl
@[simp] theorem State.setY_flagV (s : State) (v : Byte) : (s.setY v).flagV = s.flagV := rfl
@[simp] theorem State.setY_flagD (s : State) (v : Byte) : (s.setY v).flagD = s.flagD := rfl
@[simp] theorem State.setY_flagI (s : State) (v : Byte) : (s.setY v).flagI = s.flagI := rfl
@[simp] theorem State.setY_flagZ (s : State) (v : Byte) : (s.setY v).flagZ = s.flagZ := rfl
@[simp] theorem State.setY_flagC (s : State) (v : Byte) : (s.setY v).flagC = s.flagC := rfl
@[simp] theorem State.setY_pc (s : State) (v : Byte) : (s.setY v).pc = s.pc := rfl
@[simp] theorem State.setY_cycles (s : State) (v : Byte) : (s.setY v).cycles = s.cycles := rfl
@[simp] theorem State.setY_lastPC (s : State) (v : Byte) : (s.setY v).lastPC = s.lastPC := rfl
@[simp] theorem State.setY_mem (s : State) (v : Byte) : (s.setY v).mem = s.mem := rfl
@[simp] theorem State.setY_variant (s : State) (v : Byte) : (s.setY v).variant = s.variant := rfl
@[simp] theorem State.setY_read (s : State) (v : Byte) (p : Addr) : (s.setY v).read p = s.read p := rfl

/-! ### `setSp` -/

@[simp] theorem State.setSp_a (s : State) (v : Byte) : (s.setSp v).a = s.a := rfl
@[simp] theorem State.setSp_x (s : State) (v : Byte) : (s.setSp v).x = s.x := rfl
@[simp] theorem State.setSp_y (s : State) (v : Byte) : (s.setSp v).y = s.y := rfl
@[simp] theorem State.setSp_sp (s : State) (v : Byte) : (s.setSp v).sp = v := rfl
@[simp] theorem State.setSp_flagN (s : State) (v : Byte) : (s.setSp v).flagN = s.flagN := rfl
@[simp] theorem State.setSp_flagV (s : State) (v : Byte) : (s.setSp v).flagV = s.flagV := rfl
@[simp] theorem State.setSp_flagD (s : State) (v : Byte) : (s.setSp v).flagD = s.flagD := rfl
@[simp] theorem State.setSp_flagI (s : State) (v : Byte) : (s.setSp v).flagI = s.flagI := rfl
@[simp] theorem State.setSp_flagZ (s : State) (v : Byte) : (s.setSp v).flagZ = s.flagZ := rfl
@[simp] theorem State.setSp_flagC (s : State) (v : Byte) : (s.setSp v).flagC = s.flagC := rfl
@[simp] theorem State.setSp_pc (s : State) (v : Byte) : (s.setSp v).pc = s.pc := rfl
@[simp] theorem State.setSp_cycles (s : State) (v : Byte) : (s.setSp v).cycles = s.cycles := rfl
@[simp] theorem State.setSp_lastPC (s : State) (v : Byte) : (s.setSp v).lastPC = s.lastPC := rfl
@[simp] theorem State.setSp_mem (s : State) (v : Byte) : (s.setSp v).mem = s.mem := rfl
@[simp] theorem State.setSp_variant (s : State) (v : Byte) : (s.setSp v).variant = s.variant := rfl
@[simp] theorem State.setSp_read (s : State) (v : Byte) (p : Addr) : (s.setSp v).read p = s.read p := rfl

/-! ### `setPc` -/

@[simp] theorem State.setPc_a (s : State) (t : Addr) : (s.setPc t).a = s.a := rfl
@[simp] theorem State.setPc_x (s : State) (t : Addr) : (s.setPc t).x = s.x := rfl
@[simp] theorem State.setPc_y (s : State) (t : Addr) : (s.setPc t).y = s.y := rfl
@[simp] theorem State.setPc_sp (s : State) (t : Addr) : (s.setPc t).sp = s.sp := rfl
@[simp] theorem State.setPc_flagN (s : State) (t : Addr) : (s.setPc t).flagN = s.flagN := rfl
@[simp] theorem State.setPc_flagV (s : State) (t : Addr) : (s.setPc t).flagV = s.flagV := rfl
@[simp] theorem State.setPc_flagD (s : State) (t : Addr) : (s.setPc t).flagD = s.flagD := rfl
@[simp] theorem State.setPc_flagI (s : State) (t : Addr) : (s.setPc t).flagI = s.flagI := rfl
@[simp] theorem State.setPc_flagZ (s : State) (t : Addr) : (s.setPc t).flagZ = s.flagZ := rfl
@[simp] theorem State.setPc_flagC (s : State) (t : Addr) : (s.setPc t).flagC = s.flagC := rfl
@[simp] theorem State.setPc_pc (s : State) (t : Addr) : (s.setPc t).pc = t := rfl
@[simp] theorem State.setPc_cycles (s : State) (t : Addr) : (s.setPc t).cycles = s.cycles := rfl
@[simp] theorem State.setPc_lastPC (s : State) (t : Addr) : (s.setPc t).lastPC = s.lastPC := rfl
@[simp] theorem State.setPc_mem (s : State) (t : Addr) : (s.setPc t).mem = s.mem := rfl
@[simp] theorem State.setPc_variant (s : State) (t : Addr) : (s.setPc t).variant = s.variant := rfl
@[simp] theorem State.setPc_read (s : State) (t : Addr) (p : Addr) : (s.setPc t).read p = s.read p := rfl

/-! ### `addCycles` -/

@[simp] theorem State.addCycles_a (s : State) (n : Nat) : (s.addCycles n).a = s.a := rfl
@[simp] theorem State.addCycles_x (s : State) (n : Nat) : (s.addCycles n).x = s.x := rfl
@[simp] theorem State.addCycles_y (s : State) (n : Nat) : (s.addCycles n).y = s.y := rfl
@[simp] theorem State.addCycles_sp (s : State) (n : Nat) : (s.addCycles n).sp = s.sp := rfl
@[simp] theorem State.addCycles_flagN (s : State) (n : Nat) : (s.addCycles n).flagN = s.flagN := rfl
@[simp] theorem State.addCycles_flagV (s : State) (n : Nat) : (s.addCycles n).flagV = s.flagV := rfl
@[simp] theorem State.addCycles_flagD (s : State) (n : Nat) : (s.addCycles n).flagD = s.flagD := rfl
@[simp] theorem State.addCycles_flagI (s : State) (n : Nat) : (s.addCycles n).flagI = s.flagI := rfl
@[simp] theorem State.addCycles_flagZ (s : State) (n : Nat) : (s.addCycles n).flagZ = s.flagZ := rfl
@[simp] theorem State.addCycles_flagC (s : State) (n : Nat) : (s.addCycles n).flagC = s.flagC := rfl
@[simp] theorem State.addCycles_pc (s : State) (n : Nat) : (s.addCycles n).pc = s.pc := rfl
@[simp] theorem State.addCycles_cycles (s : State) (n : Nat) : (s.addCycles n).cycles = s.cycles + n := rfl
@[simp] theorem State.addCycles_lastPC (s : State) (n : Nat) : (s.addCycles n).lastPC = s.lastPC := rfl
@[simp] theorem State.addCycles_mem (s : State) (n : Nat) : (s.addCycles n).mem = s.mem := rfl
@[simp] theorem State.addCycles_variant (s : State) (n : Nat) : (s.addCycles n).variant = s.variant := rfl
@[simp] theorem State.addCycles_read (s : State) (n : Nat) (p : Addr) : (s.addCycles n).read p = s.read p := rfl

/-! ### `setNZ` -/

@[simp] theorem State.setNZ_a (s : State) (v : Byte) : (s.setNZ v).a = s.a := rfl
@[simp] theorem State.setNZ_x (s : State) (v : Byte) : (s.setNZ v).x = s.x := rfl
@[simp] theorem State.setNZ_y (s : State) (v : Byte) : (s.setNZ v).y = s.y := rfl
@[simp] theorem State.setNZ_sp (s : State) (v : Byte) : (s.setNZ v).sp = s.sp := rfl
@[simp] theorem State.setNZ_flagN (s : State) (v : Byte) : (s.setNZ v).flagN = v.msb := rfl
@[simp] theorem State.setNZ_flagV (s : State) (v : Byte) : (s.setNZ v).flagV = s.flagV := rfl
@[simp] theorem State.setNZ_flagD (s : State) (v : Byte) : (s.setNZ v).flagD = s.flagD := rfl
@[simp] theorem State.setNZ_flagI (s : State) (v : Byte) : (s.setNZ v).flagI = s.flagI := rfl
@[simp] theorem State.setNZ_flagZ (s : State) (v : Byte) : (s.setNZ v).flagZ = decide (v = 0) := rfl
@[simp] theorem State.setNZ_flagC (s : State) (v : Byte) : (s.setNZ v).flagC = s.flagC := rfl
@[simp] theorem State.setNZ_pc (s : State) (v : Byte) : (s.setNZ v).pc = s.pc := rfl
@[simp] theorem State.setNZ_cycles (s : State) (v : Byte) : (s.setNZ v).cycles = s.cycles := rfl
@[simp] theorem State.setNZ_lastPC (s : State) (v : Byte) : (s.setNZ v).lastPC = s.lastPC := rfl
@[simp] theorem State.setNZ_mem (s : State) (v : Byte) : (s.setNZ v).mem = s.mem := rfl
@[simp] theorem State.setNZ_variant (s : State) (v : Byte) : (s.setNZ v).variant = s.variant := rfl
@[simp] theorem State.setNZ_read (s : State) (v : Byte) (p : Addr) : (s.setNZ v).read p = s.read p := rfl

/-! ### `setC` -/

@[simp] theorem State.setC_a (s : State) (b : Bool) : (s.setC b).a = s.a := rfl
@[simp] theorem State.setC_x (s : State) (b : Bool) : (s.setC b).x = s.x := rfl
@[simp] theorem State.setC_y (s : State) (b : Bool) : (s.setC b).y = s.y := rfl
@[simp] theorem State.setC_sp (s : State) (b : Bool) : (s.setC b).sp = s.sp := rfl
@[simp] theorem State.setC_flagN (s : State) (b : Bool) : (s.setC b).flagN = s.flagN := rfl
@[simp] theorem State.setC_flagV (s : State) (b : Bool) : (s.setC b).flagV = s.flagV := rfl
@[simp] theorem State.setC_flagD (s : State) (b : Bool) : (s.setC b).flagD = s.flagD := rfl
@[simp] theorem State.setC_flagI (s : State) (b : Bool) : (s.setC b).flagI = s.flagI := rfl
@[simp] theorem State.setC_flagZ (s : State) (b : Bool) : (s.setC b).flagZ = s.flagZ := rfl
@[simp] theorem State.setC_flagC (s : State) (b : Bool) : (s.setC b).flagC = b := rfl
@[simp] theorem State.setC_pc (s : State) (b : Bool) : (s.setC b).pc = s.pc := rfl
@[simp] theorem State.setC_cycles (s : State) (b : Bool) : (s.setC b).cycles = s.cycles := rfl
@[simp] theorem State.setC_lastPC (s : State) (b : Bool) : (s.setC b).lastPC = s.lastPC := rfl
@[simp] theorem State.setC_mem (s : State) (b : Bool) : (s.setC b).mem = s.mem := rfl
@[simp] theorem State.setC_variant (s : State) (b : Bool) : (s.setC b).variant = s.variant := rfl
@[simp] theorem State.setC_read (s : State) (b : Bool) (p : Addr) : (s.setC b).read p = s.read p := rfl

/-! ### `setV` -/

@[simp] theorem State.setV_a (s : State) (b : Bool) : (s.setV b).a = s.a := rfl
@[simp] theorem State.setV_x (s : State) (b : Bool) : (s.setV b).x = s.x := rfl
@[simp] theorem State.setV_y (s : State) (b : Bool) : (s.setV b).y = s.y := rfl
@[simp] theorem State.setV_sp (s : State) (b : Bool) : (s.setV b).sp = s.sp := rfl
@[simp] theorem State.setV_flagN (s : State) (b : Bool) : (s.setV b).flagN = s.flagN := rfl
@[simp] theorem State.setV_flagV (s : State) (b : Bool) : (s.setV b).flagV = b := rfl
@[simp] theorem State.setV_flagD (s : State) (b : Bool) : (s.setV b).flagD = s.flagD := rfl
@[simp] theorem State.setV_flagI (s : State) (b : Bool) : (s.setV b).flagI = s.flagI := rfl
@[simp] theorem State.setV_flagZ (s : State) (b : Bool) : (s.setV b).flagZ = s.flagZ := rfl
@[simp] theorem State.setV_flagC (s : State) (b : Bool) : (s.setV b).flagC = s.flagC := rfl
@[simp] theorem State.setV_pc (s : State) (b : Bool) : (s.setV b).pc = s.pc := rfl
@[simp] theorem State.setV_cycles (s : State) (b : Bool) : (s.setV b).cycles = s.cycles := rfl
@[simp] theorem State.setV_lastPC (s : State) (b : Bool) : (s.setV b).lastPC = s.lastPC := rfl
@[simp] theorem State.setV_mem (s : State) (b : Bool) : (s.setV b).mem = s.mem := rfl
@[simp] theorem State.setV_variant (s : State) (b : Bool) : (s.setV b).variant = s.variant := rfl
@[simp] theorem State.setV_read (s : State) (b : Bool) (p : Addr) : (s.setV b).read p = s.read p := rfl

/-! ### `setI` -/

@[simp] theorem State.setI_a (s : State) (b : Bool) : (s.setI b).a = s.a := rfl
@[simp] theorem State.setI_x (s : State) (b : Bool) : (s.setI b).x = s.x := rfl
@[simp] theorem State.setI_y (s : State) (b : Bool) : (s.setI b).y = s.y := rfl
@[simp] theorem State.setI_sp (s : State) (b : Bool) : (s.setI b).sp = s.sp := rfl
@[simp] theorem State.setI_flagN (s : State) (b : Bool) : (s.setI b).flagN = s.flagN := rfl
@[simp] theorem State.setI_flagV (s : State) (b : Bool) : (s.setI b).flagV = s.flagV := rfl
@[simp] theorem State.setI_flagD (s : State) (b : Bool) : (s.setI b).flagD = s.flagD := rfl
@[simp] theorem State.setI_flagI (s : State) (b : Bool) : (s.setI b).flagI = b := rfl
@[simp] theorem State.setI_flagZ (s : State) (b : Bool) : (s.setI b).flagZ = s.flagZ := rfl
@[simp] theorem State.setI_flagC (s : State) (b : Bool) : (s.setI b).flagC = s.flagC := rfl
@[simp] theorem State.setI_pc (s : State) (b : Bool) : (s.setI b).pc = s.pc := rfl
@[simp] theorem State.setI_cycles (s : State) (b : Bool) : (s.setI b).cycles = s.cycles := rfl
@[simp] theorem State.setI_lastPC (s : State) (b : Bool) : (s.setI b).lastPC = s.lastPC := rfl
@[simp] theorem State.setI_mem (s : State) (b : Bool) : (s.setI b).mem = s.mem := rfl
@[simp] theorem State.setI_variant (s : State) (b : Bool) : (s.setI b).variant = s.variant := rfl
@[simp] theorem State.setI_read (s : State) (b : Bool) (p : Addr) : (s.setI b).read p = s.read p := rfl

/-! ### `setD` -/

@[simp] theorem State.setD_a (s : State) (b : Bool) : (s.setD b).a = s.a := rfl
@[simp] theorem State.setD_x (s : State) (b : Bool) : (s.setD b).x = s.x := rfl
@[simp] theorem State.setD_y (s : State) (b : Bool) : (s.setD b).y = s.y := rfl
@[simp] theorem State.setD_sp (s : State) (b : Bool) : (s.setD b).sp = s.sp := rfl
@[simp] theorem State.setD_flagN (s : State) (b : Bool) : (s.setD b).flagN = s.flagN := rfl
@[simp] theorem State.setD_flagV (s : State) (b : Bool) : (s.setD b).flagV = s.flagV := rfl
@[simp] theorem State.setD_flagD (s : State) (b : Bool) : (s.setD b).flagD = b := rfl
@[simp] theorem State.setD_flagI (s : State) (b : Bool) : (s.setD b).flagI = s.flagI := rfl
@[simp] theorem State.setD_flagZ (s : State) (b : Bool) : (s.setD b).flagZ = s.flagZ := rfl
@[simp] theorem State.setD_flagC (s : State) (b : Bool) : (s.setD b).flagC = s.flagC := rfl
@[simp] theorem State.setD_pc (s : State) (b : Bool) : (s.setD b).pc = s.pc := rfl
@[simp] theorem State.setD_cycles (s : State) (b : Bool) : (s.setD b).cycles = s.cycles := rfl
@[simp] theorem State.setD_lastPC (s : State) (b : Bool) : (s.setD b).lastPC = s.lastPC := rfl
@[simp] theorem State.setD_mem (s : State) (b : Bool) : (s.setD b).mem = s.mem := rfl
@[simp] theorem State.setD_variant (s : State) (b : Bool) : (s.setD b).variant = s.variant := rfl
@[simp] theorem State.setD_read (s : State) (b : Bool) (p : Addr) : (s.setD b).read p = s.read p := rfl

/-! ### `loadA` -/

@[simp] theorem State.loadA_a (s : State) (v : Byte) : (s.loadA v).a = v := rfl
@[simp] theorem State.loadA_x (s : State) (v : Byte) : (s.loadA v).x = s.x := rfl
@[simp] theorem State.loadA_y (s : State) (v : Byte) : (s.loadA v).y = s.y := rfl
@[simp] theorem State.loadA_sp (s : State) (v : Byte) : (s.loadA v).sp = s.sp := rfl
@[simp] theorem State.loadA_flagN (s : State) (v : Byte) : (s.loadA v).flagN = v.msb := rfl
@[simp] theorem State.loadA_flagV (s : State) (v : Byte) : (s.loadA v).flagV = s.flagV := rfl
@[simp] theorem State.loadA_flagD (s : State) (v : Byte) : (s.loadA v).flagD = s.flagD := rfl
@[simp] theorem State.loadA_flagI (s : State) (v : Byte) : (s.loadA v).flagI = s.flagI := rfl
@[simp] theorem State.loadA_flagZ (s : State) (v : Byte) : (s.loadA v).flagZ = decide (v = 0) := rfl
@[simp] theorem State.loadA_flagC (s : State) (v : Byte) : (s.loadA v).flagC = s.flagC := rfl
@[simp] theorem State.loadA_pc (s : State) (v : Byte) : (s.loadA v).pc = s.pc := rfl
@[simp] theorem State.loadA_cycles (s : State) (v : Byte) : (s.loadA v).cycles = s.cycles := rfl
@[simp] theorem State.loadA_lastPC (s : State) (v : Byte) : (s.loadA v).lastPC = s.lastPC := rfl
@[simp] theorem State.loadA_mem (s : State) (v : Byte) : (s.loadA v).mem = s.mem := rfl
@[simp] theorem State.loadA_variant (s : State) (v : Byte) : (s.loadA v).variant = s.variant := rfl
@[simp] theorem State.loadA_read (s : State) (v : Byte) (p : Addr) : (s.loadA v).read p = s.read p := rfl

/-! ### `loadX` -/

@[simp] theorem State.loadX_a (s : State) (v : Byte) : (s.loadX v).a = s.a := rfl
@[simp] theorem State.loadX_x (s : State) (v : Byte) : (s.loadX v).x = v := rfl
@[simp] theorem State.loadX_y (s : State) (v : Byte) : (s.loadX v).y = s.y := rfl
@[simp] theorem State.loadX_sp (s : State) (v : Byte) : (s.loadX v).sp = s.sp := rfl
@[simp] theorem State.loadX_flagN (s : State) (v : Byte) : (s.loadX v).flagN = v.msb := rfl
@[simp] theorem State.loadX_flagV (s : State) (v : Byte) : (s.loadX v).flagV = s.flagV := rfl
@[simp] theorem State.loadX_flagD (s : State) (v : Byte) : (s.loadX v).flagD = s.flagD := rfl
@[simp] theorem State.loadX_flagI (s : State) (v : Byte) : (s.loadX v).flagI = s.flagI := rfl
@[simp] theorem State.loadX_flagZ (s : State) (v : Byte) : (s.loadX v).flagZ = decide (v = 0) := rfl
@[simp] theorem State.loadX_flagC (s : State) (v : Byte) : (s.loadX v).flagC = s.flagC := rfl
@[simp] theorem State.loadX_pc (s : State) (v : Byte) : (s.loadX v).pc = s.pc := rfl
@[simp] theorem State.loadX_cycles (s : State) (v : Byte) : (s.loadX v).cycles = s.cycles := rfl
@[simp] theorem State.loadX_lastPC (s : State) (v : Byte) : (s.loadX v).lastPC = s.lastPC := rfl
@[simp] theorem State.loadX_mem (s : State) (v : Byte) : (s.loadX v).mem = s.mem := rfl
@[simp] theorem State.loadX_variant (s : State) (v : Byte) : (s.loadX v).variant = s.variant := rfl
@[simp] theorem State.loadX_read (s : State) (v : Byte) (p : Addr) : (s.loadX v).read p = s.read p := rfl

/-! ### `loadY` -/

@[simp] theorem State.loadY_a (s : State) (v : Byte) : (s.loadY v).a = s.a := rfl
@[simp] theorem State.loadY_x (s : State) (v : Byte) : (s.loadY v).x = s.x := rfl
@[simp] theorem State.loadY_y (s : State) (v : Byte) : (s.loadY v).y = v := rfl
@[simp] theorem State.loadY_sp (s : State) (v : Byte) : (s.loadY v).sp = s.sp := rfl
@[simp] theorem State.loadY_flagN (s : State) (v : Byte) : (s.loadY v).flagN = v.msb := rfl
@[simp] theorem State.loadY_flagV (s : State) (v : Byte) : (s.loadY v).flagV = s.flagV := rfl
@[simp] theorem State.loadY_flagD (s : State) (v : Byte) : (s.loadY v).flagD = s.flagD := rfl
@[simp] theorem State.loadY_flagI (s : State) (v : Byte) : (s.loadY v).flagI = s.flagI := rfl
@[simp] theorem State.loadY_flagZ (s : State) (v : Byte) : (s.loadY v).flagZ = decide (v = 0) := rfl
@[simp] theorem State.loadY_flagC (s : State) (v : Byte) : (s.loadY v).flagC = s.flagC := rfl
@[simp] theorem State.loadY_pc (s : State) (v : Byte) : (s.loadY v).pc = s.pc := rfl
@[simp] theorem State.loadY_cycles (s : State) (v : Byte) : (s.loadY v).cycles = s.cycles := rfl
@[simp] theorem State.loadY_lastPC (s : State) (v : Byte) : (s.loadY v).lastPC = s.lastPC := rfl
@[simp] theorem State.loadY_mem (s : State) (v : Byte) : (s.loadY v).mem = s.mem := rfl
@[simp] theorem State.loadY_variant (s : State) (v : Byte) : (s.loadY v).variant = s.variant := rfl
@[simp] theorem State.loadY_read (s : State) (v : Byte) (p : Addr) : (s.loadY v).read p = s.read p := rfl

/-! ### `setStatus` -/

@[simp] theorem State.setStatus_a (s : State) (v : Byte) : (s.setStatus v).a = s.a := rfl
@[simp] theorem State.setStatus_x (s : State) (v : Byte) : (s.setStatus v).x = s.x := rfl
@[simp] theorem State.setStatus_y (s : State) (v : Byte) : (s.setStatus v).y = s.y := rfl
@[simp] theorem State.setStatus_sp (s : State) (v : Byte) : (s.setStatus v).sp = s.sp := rfl
@[simp] theorem State.setStatus_flagN (s : State) (v : Byte) : (s.setStatus v).flagN = v.getLsbD 7 := rfl
@[simp] theorem State.setStatus_flagV (s : State) (v : Byte) : (s.setStatus v).flagV = v.getLsbD 6 := rfl
@[simp] theorem State.setStatus_flagD (s : State) (v : Byte) : (s.setStatus v).flagD = v.getLsbD 3 := rfl
@[simp] theorem State.setStatus_flagI (s : State) (v : Byte) : (s.setStatus v).flagI = v.getLsbD 2 := rfl
@[simp] theorem State.setStatus_flagZ (s : State) (v : Byte) : (s.setStatus v).flagZ = v.getLsbD 1 := rfl
@[simp] theorem State.setStatus_flagC (s : State) (v : Byte) : (s.setStatus v).flagC = v.getLsbD 0 := rfl
@[simp] theorem State.setStatus_pc (s : State) (v : Byte) : (s.setStatus v).pc = s.pc := rfl
@[simp] theorem State.setStatus_cycles (s : State) (v : Byte) : (s.setStatus v).cycles = s.cycles := rfl
@[simp] theorem State.setStatus_lastPC (s : State) (v : Byte) : (s.setStatus v).lastPC = s.lastPC := rfl
@[simp] theorem State.setStatus_mem (s : State) (v : Byte) : (s.setStatus v).mem = s.mem := rfl
@[simp] theorem State.setStatus_variant (s : State) (v : Byte) : (s.setStatus v).variant = s.variant := rfl
@[simp] theorem State.setStatus_read (s : State) (v : Byte) (p : Addr) : (s.setStatus v).read p = s.read p := rfl

/-! ### `write` -/

@[simp] theorem State.write_a (s : State) (addr : Addr) (v : Byte) : (s.write addr v).a = s.a := rfl
@[simp] theorem State.write_x (s : State) (addr : Addr) (v : Byte) : (s.write addr v).x = s.x := rfl
@[simp] theorem State.write_y (s : State) (addr : Addr) (v : Byte) : (s.write addr v).y = s.y := rfl
@[simp] theorem State.write_sp (s : State) (addr : Addr) (v : Byte) : (s.write addr v).sp = s.sp := rfl
@[simp] theorem State.write_flagN (s : State) (addr : Addr) (v : Byte) : (s.write addr v).flagN = s.flagN := rfl
@[simp] theorem State.write_flagV (s : State) (addr : Addr) (v : Byte) : (s.write addr v).flagV = s.flagV := rfl
@[simp] theorem State.write_flagD (s : State) (addr : Addr) (v : Byte) : (s.write addr v).flagD = s.flagD := rfl
@[simp] theorem State.write_flagI (s : State) (addr : Addr) (v : Byte) : (s.write addr v).flagI = s.flagI := rfl
@[simp] theorem State.write_flagZ (s : State) (addr : Addr) (v : Byte) : (s.write addr v).flagZ = s.flagZ := rfl
@[simp] theorem State.write_flagC (s : State) (addr : Addr) (v : Byte) : (s.write addr v).flagC = s.flagC := rfl
@[simp] theorem State.write_pc (s : State) (addr : Addr) (v : Byte) : (s.write addr v).pc = s.pc := rfl
@[simp] theorem State.write_cycles (s : State) (addr : Addr) (v : Byte) : (s.write addr v).cycles = s.cycles := rfl
@[simp] theorem State.write_lastPC (s : State) (addr : Addr) (v : Byte) : (s.write addr v).lastPC = s.lastPC := rfl
@[simp] theorem State.write_mem (s : State) (addr : Addr) (v : Byte) : (s.write addr v).mem = s.mem.write addr.toNat v := rfl
@[simp] theorem State.write_variant (s : State) (addr : Addr) (v : Byte) : (s.write addr v).variant = s.variant := rfl

/-! ### `push` -/

@[simp] theorem State.push_a (s : State) (v : Byte) : (s.push v).a = s.a := rfl
@[simp] theorem State.push_x (s : State) (v : Byte) : (s.push v).x = s.x := rfl
@[simp] theorem State.push_y (s : State) (v : Byte) : (s.push v).y = s.y := rfl
@[simp] theorem State.push_sp (s : State) (v : Byte) : (s.push v).sp = s.sp - 1 := rfl
@[simp] theorem State.push_flagN (s : State) (v : Byte) : (s.push v).flagN = s.flagN := rfl
@[simp] theorem State.push_flagV (s : State) (v : Byte) : (s.push v).flagV = s.flagV := rfl
@[simp] theorem State.push_flagD (s : State) (v : Byte) : (s.push v).flagD = s.flagD := rfl
@[simp] theorem State.push_flagI (s : State) (v : Byte) : (s.push v).flagI = s.flagI := rfl
@[simp] theorem State.push_flagZ (s : State) (v : Byte) : (s.push v).flagZ = s.flagZ := rfl
@[simp] theorem State.push_flagC (s : State) (v : Byte) : (s.push v).flagC = s.flagC := rfl
@[simp] theorem State.push_pc (s : State) (v : Byte) : (s.push v).pc = s.pc := rfl
@[simp] theorem State.push_cycles (s : State) (v : Byte) : (s.push v).cycles = s.cycles := rfl
@[simp] theorem State.push_lastPC (s : State) (v : Byte) : (s.push v).lastPC = s.lastPC := rfl
@[simp] theorem State.push_mem (s : State) (v : Byte) : (s.push v).mem = s.mem.write (stackAddr s.sp).toNat v := rfl
@[simp] theorem State.push_variant (s : State) (v : Byte) : (s.push v).variant = s.variant := rfl

/-! ### `pop` -/

@[simp] theorem State.pop_a (s : State) : s.pop.a = s.a := rfl
@[simp] theorem State.pop_x (s : State) : s.pop.x = s.x := rfl
@[simp] theorem State.pop_y (s : State) : s.pop.y = s.y := rfl
@[simp] theorem State.pop_sp (s : State) : s.pop.sp = s.sp + 1 := rfl
@[simp] theorem State.pop_flagN (s : State) : s.pop.flagN = s.flagN := rfl
@[simp] theorem State.pop_flagV (s : State) : s.pop.flagV = s.flagV := rfl
@[simp] theorem State.pop_flagD (s : State) : s.pop.flagD = s.flagD := rfl
@[simp] theorem State.pop_flagI (s : State) : s.pop.flagI = s.flagI := rfl
@[simp] theorem State.pop_flagZ (s : State) : s.pop.flagZ = s.flagZ := rfl
@[simp] theorem State.pop_flagC (s : State) : s.pop.flagC = s.flagC := rfl
@[simp] theorem State.pop_pc (s : State) : s.pop.pc = s.pc := rfl
@[simp] theorem State.pop_cycles (s : State) : s.pop.cycles = s.cycles := rfl
@[simp] theorem State.pop_lastPC (s : State) : s.pop.lastPC = s.lastPC := rfl
@[simp] theorem State.pop_mem (s : State) : s.pop.mem = s.mem := rfl
@[simp] theorem State.pop_variant (s : State) : s.pop.variant = s.variant := rfl
@[simp] theorem State.pop_read (s : State) (p : Addr) : s.pop.read p = s.read p := rfl

/-! ### `putSum` -/

@[simp] theorem State.putSum_a (s : State) (r : Sum) : (s.putSum r).a = r.value := rfl
@[simp] theorem State.putSum_x (s : State) (r : Sum) : (s.putSum r).x = s.x := rfl
@[simp] theorem State.putSum_y (s : State) (r : Sum) : (s.putSum r).y = s.y := rfl
@[simp] theorem State.putSum_sp (s : State) (r : Sum) : (s.putSum r).sp = s.sp := rfl
@[simp] theorem State.putSum_flagN (s : State) (r : Sum) : (s.putSum r).flagN = r.n := rfl
@[simp] theorem State.putSum_flagV (s : State) (r : Sum) : (s.putSum r).flagV = r.v := rfl
@[simp] theorem State.putSum_flagD (s : State) (r : Sum) : (s.putSum r).flagD = s.flagD := rfl
@[simp] theorem State.putSum_flagI (s : State) (r : Sum) : (s.putSum r).flagI = s.flagI := rfl
@[simp] theorem State.putSum_flagZ (s : State) (r : Sum) : (s.putSum r).flagZ = r.z := rfl
@[simp] theorem State.putSum_flagC (s : State) (r : Sum) : (s.putSum r).flagC = r.c := rfl
@[simp] theorem State.putSum_pc (s : State) (r : Sum) : (s.putSum r).pc = s.pc := rfl
@[simp] theorem State.putSum_cycles (s : State) (r : Sum) : (s.putSum r).cycles = s.cycles := rfl
@[simp] theorem State.putSum_lastPC (s : State) (r : Sum) : (s.putSum r).lastPC = s.lastPC := rfl
@[simp] theorem State.putSum_mem (s : State) (r : Sum) : (s.putSum r).mem = s.mem := rfl
@[simp] theorem State.putSum_variant (s : State) (r : Sum) : (s.putSum r).variant = s.variant := rfl
@[simp] theorem State.putSum_read (s : State) (r : Sum) (p : Addr) : (s.putSum r).read p = s.read p := rfl

/-! ### `compare` -/

@[simp] theorem State.compare_a (s : State) (r m : Byte) : (s.compare r m).a = s.a := rfl
@[simp] theorem State.compare_x (s : State) (r m : Byte) : (s.compare r m).x = s.x := rfl
@[simp] theorem State.compare_y (s : State) (r m : Byte) : (s.compare r m).y = s.y := rfl
@[simp] theorem State.compare_sp (s : State) (r m : Byte) : (s.compare r m).sp = s.sp := rfl
@[simp] theorem State.compare_flagN (s : State) (r m : Byte) : (s.compare r m).flagN = (r - m).msb := rfl
@[simp] theorem State.compare_flagV (s : State) (r m : Byte) : (s.compare r m).flagV = s.flagV := rfl
@[simp] theorem State.compare_flagD (s : State) (r m : Byte) : (s.compare r m).flagD = s.flagD := rfl
@[simp] theorem State.compare_flagI (s : State) (r m : Byte) : (s.compare r m).flagI = s.flagI := rfl
@[simp] theorem State.compare_flagZ (s : State) (r m : Byte) : (s.compare r m).flagZ = decide (r - m = 0) := rfl
@[simp] theorem State.compare_flagC (s : State) (r m : Byte) : (s.compare r m).flagC = decide (m.toNat ≤ r.toNat) := rfl
@[simp] theorem State.compare_pc (s : State) (r m : Byte) : (s.compare r m).pc = s.pc := rfl
@[simp] theorem State.compare_cycles (s : State) (r m : Byte) : (s.compare r m).cycles = s.cycles := rfl
@[simp] theorem State.compare_lastPC (s : State) (r m : Byte) : (s.compare r m).lastPC = s.lastPC := rfl
@[simp] theorem State.compare_mem (s : State) (r m : Byte) : (s.compare r m).mem = s.mem := rfl
@[simp] theorem State.compare_variant (s : State) (r m : Byte) : (s.compare r m).variant = s.variant := rfl
@[simp] theorem State.compare_read (s : State) (r m : Byte) (p : Addr) : (s.compare r m).read p = s.read p := rfl

/-! ### `add` -/

@[simp] theorem State.add_x (s : State) (m : Byte) : (s.add m).x = s.x := rfl
@[simp] theorem State.add_y (s : State) (m : Byte) : (s.add m).y = s.y := rfl
@[simp] theorem State.add_sp (s : State) (m : Byte) : (s.add m).sp = s.sp := rfl
@[simp] theorem State.add_flagD (s : State) (m : Byte) : (s.add m).flagD = s.flagD := rfl
@[simp] theorem State.add_flagI (s : State) (m : Byte) : (s.add m).flagI = s.flagI := rfl
@[simp] theorem State.add_pc (s : State) (m : Byte) : (s.add m).pc = s.pc := rfl
@[simp] theorem State.add_cycles (s : State) (m : Byte) : (s.add m).cycles = s.cycles := rfl
@[simp] theorem State.add_lastPC (s : State) (m : Byte) : (s.add m).lastPC = s.lastPC := rfl
@[simp] theorem State.add_mem (s : State) (m : Byte) : (s.add m).mem = s.mem := rfl
@[simp] theorem State.add_variant (s : State) (m : Byte) : (s.add m).variant = s.variant := rfl
@[simp] theorem State.add_read (s : State) (m : Byte) (p : Addr) : (s.add m).read p = s.read p := rfl

/-! ### `sub` -/

@[simp] theorem State.sub_x (s : State) (m : Byte) : (s.sub m).x = s.x := rfl
@[simp] theorem State.sub_y (s : State) (m : Byte) : (s.sub m).y = s.y := rfl
@[simp] theorem State.sub_sp (s : State) (m : Byte) : (s.sub m).sp = s.sp := rfl
@[simp] theorem State.sub_flagD (s : State) (m : Byte) : (s.sub m).flagD = s.flagD := rfl
@[simp] theorem State.sub_flagI (s : State) (m : Byte) : (s.sub m).flagI = s.flagI := rfl
@[simp] theorem State.sub_pc (s : State) (m : Byte) : (s.sub m).pc = s.pc := rfl
@[simp] theorem State.sub_cycles (s : State) (m : Byte) : (s.sub m).cycles = s.cycles := rfl
@[simp] theorem State.sub_lastPC (s : State) (m : Byte) : (s.sub m).lastPC = s.lastPC := rfl
@[simp] theorem State.sub_mem (s : State) (m : Byte) : (s.sub m).mem = s.mem := rfl
@[simp] theorem State.sub_variant (s : State) (m : Byte) : (s.sub m).variant = s.variant := rfl
@[simp] theorem State.sub_read (s : State) (m : Byte) (p : Addr) : (s.sub m).read p = s.read p := rfl

/-! ### `pushWord` -/

@[simp] theorem State.pushWord_a (s : State) (w : Addr) : (s.pushWord w).a = s.a := rfl
@[simp] theorem State.pushWord_x (s : State) (w : Addr) : (s.pushWord w).x = s.x := rfl
@[simp] theorem State.pushWord_y (s : State) (w : Addr) : (s.pushWord w).y = s.y := rfl
@[simp] theorem State.pushWord_sp (s : State) (w : Addr) : (s.pushWord w).sp = s.sp - 1 - 1 := rfl
@[simp] theorem State.pushWord_flagN (s : State) (w : Addr) : (s.pushWord w).flagN = s.flagN := rfl
@[simp] theorem State.pushWord_flagV (s : State) (w : Addr) : (s.pushWord w).flagV = s.flagV := rfl
@[simp] theorem State.pushWord_flagD (s : State) (w : Addr) : (s.pushWord w).flagD = s.flagD := rfl
@[simp] theorem State.pushWord_flagI (s : State) (w : Addr) : (s.pushWord w).flagI = s.flagI := rfl
@[simp] theorem State.pushWord_flagZ (s : State) (w : Addr) : (s.pushWord w).flagZ = s.flagZ := rfl
@[simp] theorem State.pushWord_flagC (s : State) (w : Addr) : (s.pushWord w).flagC = s.flagC := rfl
@[simp] theorem State.pushWord_pc (s : State) (w : Addr) : (s.pushWord w).pc = s.pc := rfl
@[simp] theorem State.pushWord_cycles (s : State) (w : Addr) : (s.pushWord w).cycles = s.cycles := rfl
@[simp] theorem State.pushWord_lastPC (s : State) (w : Addr) : (s.pushWord w).lastPC = s.lastPC := rfl
@[simp] theorem State.pushWord_variant (s : State) (w : Addr) : (s.pushWord w).variant = s.variant := rfl

/-! ### `leaveTrap` -/

@[simp] theorem State.leaveTrap_a (s : State) : s.leaveTrap.a = s.a := rfl
@[simp] theorem State.leaveTrap_x (s : State) : s.leaveTrap.x = s.x := rfl
@[simp] theorem State.leaveTrap_y (s : State) : s.leaveTrap.y = s.y := rfl
@[simp] theorem State.leaveTrap_sp (s : State) : s.leaveTrap.sp = s.sp + 1 + 1 + 1 := rfl
@[simp] theorem State.leaveTrap_flagN (s : State) : s.leaveTrap.flagN = s.pulled.getLsbD 7 := rfl
@[simp] theorem State.leaveTrap_flagV (s : State) : s.leaveTrap.flagV = s.pulled.getLsbD 6 := rfl
@[simp] theorem State.leaveTrap_flagD (s : State) : s.leaveTrap.flagD = s.pulled.getLsbD 3 := rfl
@[simp] theorem State.leaveTrap_flagI (s : State) : s.leaveTrap.flagI = s.pulled.getLsbD 2 := rfl
@[simp] theorem State.leaveTrap_flagZ (s : State) : s.leaveTrap.flagZ = s.pulled.getLsbD 1 := rfl
@[simp] theorem State.leaveTrap_flagC (s : State) : s.leaveTrap.flagC = s.pulled.getLsbD 0 := rfl
@[simp] theorem State.leaveTrap_cycles (s : State) : s.leaveTrap.cycles = s.cycles := rfl
@[simp] theorem State.leaveTrap_lastPC (s : State) : s.leaveTrap.lastPC = s.lastPC := rfl
@[simp] theorem State.leaveTrap_mem (s : State) : s.leaveTrap.mem = s.mem := rfl
@[simp] theorem State.leaveTrap_variant (s : State) : s.leaveTrap.variant = s.variant := rfl
@[simp] theorem State.leaveTrap_read (s : State) (p : Addr) : s.leaveTrap.read p = s.read p := rfl

/-! ### `recordFetch` -/

@[simp] theorem State.recordFetch_a (s : State) : s.recordFetch.a = s.a := rfl
@[simp] theorem State.recordFetch_x (s : State) : s.recordFetch.x = s.x := rfl
@[simp] theorem State.recordFetch_y (s : State) : s.recordFetch.y = s.y := rfl
@[simp] theorem State.recordFetch_sp (s : State) : s.recordFetch.sp = s.sp := rfl
@[simp] theorem State.recordFetch_flagN (s : State) : s.recordFetch.flagN = s.flagN := rfl
@[simp] theorem State.recordFetch_flagV (s : State) : s.recordFetch.flagV = s.flagV := rfl
@[simp] theorem State.recordFetch_flagD (s : State) : s.recordFetch.flagD = s.flagD := rfl
@[simp] theorem State.recordFetch_flagI (s : State) : s.recordFetch.flagI = s.flagI := rfl
@[simp] theorem State.recordFetch_flagZ (s : State) : s.recordFetch.flagZ = s.flagZ := rfl
@[simp] theorem State.recordFetch_flagC (s : State) : s.recordFetch.flagC = s.flagC := rfl
@[simp] theorem State.recordFetch_pc (s : State) : s.recordFetch.pc = s.pc := rfl
@[simp] theorem State.recordFetch_cycles (s : State) : s.recordFetch.cycles = s.cycles := rfl
@[simp] theorem State.recordFetch_lastPC (s : State) : s.recordFetch.lastPC = s.pc := rfl
@[simp] theorem State.recordFetch_mem (s : State) : s.recordFetch.mem = s.mem := rfl
@[simp] theorem State.recordFetch_variant (s : State) : s.recordFetch.variant = s.variant := rfl
@[simp] theorem State.recordFetch_read (s : State) (p : Addr) : s.recordFetch.read p = s.read p := rfl

end Sys2Proof.Machine
end

