-- ==== Sys2Proof/Laws/Ops.lean ====
section
/-! SUPPORT. What each shared operation over memory, the stack and the trap sequence does: reads after it, the canonical
form it keeps, and the fields it leaves (R24, R53, R54, R302, R306, R307). A proof cites these and unfolds no operation. -/

namespace Sys2Proof.Machine

/-! ## One cell -/

/-- Reading any cell after a write (R53, R54). -/
theorem State.read_write (s : State) (a p : Addr) (v : Byte) :
    (s.write a v).read p = if p = a then v else s.read p := by
  simp only [State.read, State.write, Memory.read_write, BitVec.toNat_inj]

@[simp] theorem State.read_write_self (s : State) (a : Addr) (v : Byte) : (s.write a v).read a = v := by
  rw [State.read_write, if_pos rfl]

theorem State.read_write_other (s : State) {a p : Addr} (v : Byte) (h : p ≠ a) : (s.write a v).read p = s.read p := by
  rw [State.read_write, if_neg h]

/-- Two states with the same memory read alike. -/
theorem State.read_congr {s t : State} (h : s.mem = t.mem) (p : Addr) : s.read p = t.read p := by
  rw [State.read, State.read, h]

/-- A write keeps the canonical form: an address is always inside the address space. -/
theorem State.write_wf {s : State} (h : s.mem.wf = true) (a : Addr) (v : Byte) : (s.write a v).mem.wf = true :=
  Memory.write_wf h a.isLt v

/-! ## Rising addresses -/

/-- A block write changes nothing but memory. -/
theorem State.writeBytes_eq (bytes : List Byte) :
    ∀ (s : State) (a : Addr), s.writeBytes a bytes = { s with mem := (s.writeBytes a bytes).mem } := by
  induction bytes with
  | nil => exact fun _ _ => rfl
  | cons b rest ih => exact fun s a => ih (s.write a b) (a + 1)

/-- A block write keeps the canonical form. -/
theorem State.writeBytes_wf (bytes : List Byte) :
    ∀ (s : State) (a : Addr), s.mem.wf = true → (s.writeBytes a bytes).mem.wf = true := by
  induction bytes with
  | nil => exact fun _ _ h => h
  | cons b rest ih => exact fun s a h => ih (s.write a b) (a + 1) (State.write_wf h a b)

@[simp] theorem State.readBytes_length (n : Nat) : ∀ (s : State) (a : Addr), (s.readBytes a n).length = n := by
  induction n with
  | zero => exact fun _ _ => rfl
  | succ n ih => exact fun s a => congrArg (· + 1) (ih s (a + 1))

/-! ## Halves of a word -/

@[simp] theorem page_joinBytes (hi lo : Byte) : page (joinBytes hi lo) = hi := by
  simp only [page, joinBytes]
  ext k hk
  simp only [BitVec.getElem_extractLsb', BitVec.getLsbD_append]
  rw [if_neg (by omega)]
  simp [BitVec.getLsbD_eq_getElem hk]

@[simp] theorem lowByte_joinBytes (hi lo : Byte) : lowByte (joinBytes hi lo) = lo := by
  simp only [lowByte, joinBytes]
  ext k hk
  simp only [BitVec.getElem_extractLsb', BitVec.getLsbD_append]
  rw [if_pos (by omega)]
  simp [BitVec.getLsbD_eq_getElem hk]

@[simp] theorem joinBytes_page_lowByte (w : Addr) : joinBytes (page w) (lowByte w) = w := by
  simp only [page, lowByte, joinBytes]
  ext k hk
  rw [← BitVec.getLsbD_eq_getElem, ← BitVec.getLsbD_eq_getElem, BitVec.getLsbD_append]
  by_cases h : k < 8
  · simp [h]
  · simp [h, show k - 8 < 8 by omega, show 8 + (k - 8) = k by omega]

/-- A joined word as a number. -/
theorem toNat_joinBytes (hi lo : Byte) : (joinBytes hi lo).toNat = hi.toNat * 256 + lo.toNat := by
  simp only [joinBytes, BitVec.toNat_append]
  rw [← Nat.shiftLeft_add_eq_or_of_lt lo.isLt, Nat.shiftLeft_eq]

theorem toNat_page (w : Addr) : (page w).toNat = w.toNat / 256 := by
  have := toNat_joinBytes (page w) (lowByte w)
  have hl := (lowByte w).isLt
  rw [joinBytes_page_lowByte] at this
  omega

theorem toNat_lowByte (w : Addr) : (lowByte w).toNat = w.toNat % 256 := by
  have := toNat_joinBytes (page w) (lowByte w)
  have hl := (lowByte w).isLt
  rw [joinBytes_page_lowByte] at this
  omega

/-! ## The stack -/

/-- The cell of a stack pointer, as R23 writes it. -/
theorem stackAddr_eq (sp : Byte) : stackAddr sp = 0x0100 + sp.setWidth 16 := by
  apply BitVec.eq_of_toNat_eq
  have hlt := sp.isLt
  have h1 : BitVec.toNat (1 : Byte) = 1 := rfl
  have h256 : BitVec.toNat (256 : Addr) = 256 := rfl
  rw [stackAddr, toNat_joinBytes, BitVec.toNat_add, BitVec.toNat_setWidth, h1, h256]
  omega

/-- Two stack pointers designate one cell only if they are equal. -/
theorem stackAddr_inj {p q : Byte} : stackAddr p = stackAddr q ↔ p = q := by
  refine ⟨fun h => ?_, fun h => h ▸ rfl⟩
  simpa only [stackAddr, lowByte_joinBytes] using congrArg lowByte h

/-- `push` as a write and a decrement (R24). -/
theorem State.push_eq (s : State) (v : Byte) : s.push v = { s.write (stackAddr s.sp) v with sp := s.sp - 1 } := rfl

/-- Reading any cell after a push. -/
theorem State.read_push (s : State) (v : Byte) (p : Addr) :
    (s.push v).read p = if p = stackAddr s.sp then v else s.read p :=
  State.read_write s (stackAddr s.sp) p v

/-- A push keeps the canonical form. -/
theorem State.push_wf {s : State} (h : s.mem.wf = true) (v : Byte) : (s.push v).mem.wf = true :=
  State.write_wf h (stackAddr s.sp) v

/-- A pull after a push gives the byte pushed and the stack pointer from before. -/
theorem State.pulled_push (s : State) (v : Byte) : (s.push v).pulled = v ∧ (s.push v).pop.sp = s.sp := by
  constructor
  · rw [State.pulled, State.read_push, State.push_sp, if_pos]
    exact congrArg stackAddr (BitVec.sub_add_cancel s.sp 1)
  · exact BitVec.sub_add_cancel s.sp 1

/-- Pushing a word is two writes, high byte first, and takes the stack pointer down by two (R55). -/
theorem State.pushWord_eq (s : State) (w : Addr) :
    s.pushWord w = { (s.write (stackAddr s.sp) (page w)).write (stackAddr (s.sp - 1)) (lowByte w) with
      sp := s.sp - 1 - 1 } := rfl

/-- Reading any cell after a word was pushed. -/
theorem State.read_pushWord (s : State) (w p : Addr) :
    (s.pushWord w).read p =
      if p = stackAddr (s.sp - 1) then lowByte w else if p = stackAddr s.sp then page w else s.read p := by
  rw [State.pushWord, State.read_push, State.read_push, State.push_sp]

/-- A pushed word keeps the canonical form. -/
theorem State.pushWord_wf {s : State} (h : s.mem.wf = true) (w : Addr) : (s.pushWord w).mem.wf = true :=
  State.push_wf (State.push_wf h (page w)) (lowByte w)

/-- The word two pulls give: the low byte above the stack pointer, the high byte one above that. -/
theorem State.pulledWord_eq (s : State) :
    s.pulledWord = joinBytes (s.read (stackAddr (s.sp + 1 + 1))) (s.read (stackAddr (s.sp + 1))) := rfl

/-! ## The status image, bit by bit (R26) -/

/-- Every bit of the image at once. -/
theorem statusImage_bits (n v b d i z c : Bool) (k : Fin 8) :
    (BitVec.ofBool n ++ BitVec.ofBool v ++ 1#1 ++ BitVec.ofBool b ++ BitVec.ofBool d ++ BitVec.ofBool i ++
      BitVec.ofBool z ++ BitVec.ofBool c : Byte).getLsbD k = [c, z, i, d, b, true, v, n][k] := by
  revert n v b d i z c k
  decide

@[simp] theorem State.statusImage_bit7 (s : State) (b : Bool) : (s.statusImage b)[7] = s.flagN :=
  statusImage_bits _ _ _ _ _ _ _ 7
@[simp] theorem State.statusImage_bit6 (s : State) (b : Bool) : (s.statusImage b)[6] = s.flagV :=
  statusImage_bits _ _ _ _ _ _ _ 6
@[simp] theorem State.statusImage_bit5 (s : State) (b : Bool) : (s.statusImage b)[5] = true :=
  statusImage_bits _ _ _ _ _ _ _ 5
@[simp] theorem State.statusImage_bit4 (s : State) (b : Bool) : (s.statusImage b)[4] = b :=
  statusImage_bits _ _ _ _ _ _ _ 4
@[simp] theorem State.statusImage_bit3 (s : State) (b : Bool) : (s.statusImage b)[3] = s.flagD :=
  statusImage_bits _ _ _ _ _ _ _ 3
@[simp] theorem State.statusImage_bit2 (s : State) (b : Bool) : (s.statusImage b)[2] = s.flagI :=
  statusImage_bits _ _ _ _ _ _ _ 2
@[simp] theorem State.statusImage_bit1 (s : State) (b : Bool) : (s.statusImage b)[1] = s.flagZ :=
  statusImage_bits _ _ _ _ _ _ _ 1
@[simp] theorem State.statusImage_bit0 (s : State) (b : Bool) : (s.statusImage b)[0] = s.flagC :=
  statusImage_bits _ _ _ _ _ _ _ 0

/-! ## The trap sequence -/

/-- Trap entry as a state: three writes, `S - 3`, I set, PC at the vector as it reads after the writes (R306). -/
theorem State.enterTrap_eq (s : State) (ret : Addr) (b : Bool) (vector : Addr) :
    s.enterTrap ret b vector =
      { ((s.write (stackAddr s.sp) (page ret)).write (stackAddr (s.sp - 1)) (lowByte ret)).write
          (stackAddr (s.sp - 1 - 1)) (s.statusImage b) with
        sp := s.sp - 1 - 1 - 1
        flagI := true
        pc := ((s.pushWord ret).push (s.statusImage b)).read16 vector } := rfl

@[simp] theorem State.enterTrap_a (s : State) (ret : Addr) (b : Bool) (vector : Addr) :
    (s.enterTrap ret b vector).a = s.a := by
  rw [State.enterTrap_eq]
  rfl

@[simp] theorem State.enterTrap_x (s : State) (ret : Addr) (b : Bool) (vector : Addr) :
    (s.enterTrap ret b vector).x = s.x := by
  rw [State.enterTrap_eq]
  rfl

@[simp] theorem State.enterTrap_y (s : State) (ret : Addr) (b : Bool) (vector : Addr) :
    (s.enterTrap ret b vector).y = s.y := by
  rw [State.enterTrap_eq]
  rfl

@[simp] theorem State.enterTrap_sp (s : State) (ret : Addr) (b : Bool) (vector : Addr) :
    (s.enterTrap ret b vector).sp = s.sp - 1 - 1 - 1 := by
  rw [State.enterTrap_eq]

@[simp] theorem State.enterTrap_flagN (s : State) (ret : Addr) (b : Bool) (vector : Addr) :
    (s.enterTrap ret b vector).flagN = s.flagN := by
  rw [State.enterTrap_eq]
  rfl

@[simp] theorem State.enterTrap_flagV (s : State) (ret : Addr) (b : Bool) (vector : Addr) :
    (s.enterTrap ret b vector).flagV = s.flagV := by
  rw [State.enterTrap_eq]
  rfl

@[simp] theorem State.enterTrap_flagD (s : State) (ret : Addr) (b : Bool) (vector : Addr) :
    (s.enterTrap ret b vector).flagD = s.flagD := by
  rw [State.enterTrap_eq]
  rfl

@[simp] theorem State.enterTrap_flagI (s : State) (ret : Addr) (b : Bool) (vector : Addr) :
    (s.enterTrap ret b vector).flagI = true := by
  rw [State.enterTrap_eq]

@[simp] theorem State.enterTrap_flagZ (s : State) (ret : Addr) (b : Bool) (vector : Addr) :
    (s.enterTrap ret b vector).flagZ = s.flagZ := by
  rw [State.enterTrap_eq]
  rfl

@[simp] theorem State.enterTrap_flagC (s : State) (ret : Addr) (b : Bool) (vector : Addr) :
    (s.enterTrap ret b vector).flagC = s.flagC := by
  rw [State.enterTrap_eq]
  rfl

@[simp] theorem State.enterTrap_cycles (s : State) (ret : Addr) (b : Bool) (vector : Addr) :
    (s.enterTrap ret b vector).cycles = s.cycles := by
  rw [State.enterTrap_eq]
  rfl

@[simp] theorem State.enterTrap_lastPC (s : State) (ret : Addr) (b : Bool) (vector : Addr) :
    (s.enterTrap ret b vector).lastPC = s.lastPC := by
  rw [State.enterTrap_eq]
  rfl

@[simp] theorem State.enterTrap_variant (s : State) (ret : Addr) (b : Bool) (vector : Addr) :
    (s.enterTrap ret b vector).variant = s.variant := by
  rw [State.enterTrap_eq]
  rfl

/-- Reading any cell after a trap entry. -/
theorem State.read_enterTrap (s : State) (ret : Addr) (b : Bool) (vector p : Addr) :
    (s.enterTrap ret b vector).read p =
      if p = stackAddr (s.sp - 1 - 1) then s.statusImage b
      else if p = stackAddr (s.sp - 1) then lowByte ret
      else if p = stackAddr s.sp then page ret
      else s.read p := by
  have h := State.read_push (s.pushWord ret) (s.statusImage b) p
  rw [State.pushWord_sp, State.read_pushWord] at h
  exact (State.read_congr rfl p).trans h

/-- Trap entry keeps the canonical form. -/
theorem State.enterTrap_wf {s : State} (h : s.mem.wf = true) (ret : Addr) (b : Bool) (vector : Addr) :
    (s.enterTrap ret b vector).mem.wf = true :=
  State.push_wf (State.pushWord_wf h ret) (s.statusImage b)

/-- Trap return as a state: the six flags from the first byte, PC from the next two, `S + 3`, no store (R307). -/
theorem State.leaveTrap_eq (s : State) :
    s.leaveTrap = { s.setStatus (s.read (stackAddr (s.sp + 1))) with
      sp := s.sp + 1 + 1 + 1
      pc := joinBytes (s.read (stackAddr (s.sp + 1 + 1 + 1))) (s.read (stackAddr (s.sp + 1 + 1))) } := rfl

end Sys2Proof.Machine
end

