-- ==== Sys2Proof/Laws/Operands.lean ====
section
/-! SUPPORT. The shared operations of `Machine/Operands.lean`, mode by mode and field by field, and what the two endings
of an instruction can answer (R12, R240). -/

namespace Sys2Proof.Machine

/-! ## The operand byte and the result -/

@[simp] theorem operandByte_imm (d : Byte) (s : State) : operandByte (.imm d) s = d := rfl
@[simp] theorem operandByte_acc (s : State) : operandByte .acc s = s.a := rfl

/-- In every mode but `imm` and `acc`, `M` is the byte at `ea` (R12). -/
theorem operandByte_memory {op : Operand} (hi : op.mode ≠ .imm) (ha : op ≠ .acc) (s : State) :
    operandByte op s = s.read (effAddr op s) := by
  cases op <;> first | rfl | exact absurd rfl hi | exact absurd rfl ha

@[simp] theorem State.writeResult_acc (s : State) (v : Byte) : s.writeResult .acc v = s.setA v := rfl

/-- In every mode but `acc`, the result goes to the cell at `ea` (R180). -/
theorem State.writeResult_memory {op : Operand} (h : op ≠ .acc) (s : State) (v : Byte) :
    s.writeResult op v = s.write (effAddr op s) v := by
  cases op <;> first | rfl | exact absurd rfl h

/-- A result keeps the canonical form, wherever it goes. -/
theorem State.writeResult_wf {s : State} (h : s.mem.wf = true) (op : Operand) (v : Byte) :
    (s.writeResult op v).mem.wf = true := by
  cases op <;> first | exact h | exact State.write_wf h _ v

/-! A result touches `A` or one cell, and nothing else. -/

@[simp] theorem State.writeResult_x (s : State) (op : Operand) (v : Byte) : (s.writeResult op v).x = s.x := by
  cases op <;> rfl
@[simp] theorem State.writeResult_y (s : State) (op : Operand) (v : Byte) : (s.writeResult op v).y = s.y := by
  cases op <;> rfl
@[simp] theorem State.writeResult_sp (s : State) (op : Operand) (v : Byte) : (s.writeResult op v).sp = s.sp := by
  cases op <;> rfl
@[simp] theorem State.writeResult_flagN (s : State) (op : Operand) (v : Byte) : (s.writeResult op v).flagN = s.flagN := by
  cases op <;> rfl
@[simp] theorem State.writeResult_flagV (s : State) (op : Operand) (v : Byte) : (s.writeResult op v).flagV = s.flagV := by
  cases op <;> rfl
@[simp] theorem State.writeResult_flagD (s : State) (op : Operand) (v : Byte) : (s.writeResult op v).flagD = s.flagD := by
  cases op <;> rfl
@[simp] theorem State.writeResult_flagI (s : State) (op : Operand) (v : Byte) : (s.writeResult op v).flagI = s.flagI := by
  cases op <;> rfl
@[simp] theorem State.writeResult_flagZ (s : State) (op : Operand) (v : Byte) : (s.writeResult op v).flagZ = s.flagZ := by
  cases op <;> rfl
@[simp] theorem State.writeResult_flagC (s : State) (op : Operand) (v : Byte) : (s.writeResult op v).flagC = s.flagC := by
  cases op <;> rfl
@[simp] theorem State.writeResult_pc (s : State) (op : Operand) (v : Byte) : (s.writeResult op v).pc = s.pc := by
  cases op <;> rfl
@[simp] theorem State.writeResult_cycles (s : State) (op : Operand) (v : Byte) : (s.writeResult op v).cycles = s.cycles := by
  cases op <;> rfl
@[simp] theorem State.writeResult_lastPC (s : State) (op : Operand) (v : Byte) : (s.writeResult op v).lastPC = s.lastPC := by
  cases op <;> rfl
@[simp] theorem State.writeResult_variant (s : State) (op : Operand) (v : Byte) : (s.writeResult op v).variant = s.variant := by
  cases op <;> rfl

/-- Every cell but the one at `ea` reads as before; in the accumulator mode every cell does. -/
theorem State.read_writeResult (s : State) (op : Operand) (v : Byte) {p : Addr} (h : op ≠ .acc → p ≠ effAddr op s) :
    (s.writeResult op v).read p = s.read p := by
  cases op <;> first | rfl | exact State.read_write_other s v (h (by simp))

/-! ## The endings -/

/-- The default ending answers one next state: that of the instruction, with PC past it and the cost added (R12). -/
theorem complete_eq_next (r : Row) (op : Operand) (s t u : State) :
    complete r op s t = .next u ↔
      u = { t with pc := s.pc + BitVec.ofNat 16 op.length, cycles := s.cycles + cost r op s } := by
  rw [complete, Host.Outcome.next.injEq, eq_comm]

/-- In `full` mode an undocumented opcode does what its rule gives (R240). -/
@[simp] theorem undocumented_full {s : State} (h : s.variant.undocMode = .full) (r : Row) (op : Operand) (o : Out) :
    undocumented r op s o = o := by
  rw [undocumented, h]

/-- In `skip` mode an undocumented opcode is a no-op of its own length and cost (R240). -/
@[simp] theorem undocumented_skip {s : State} (h : s.variant.undocMode = .skip) (r : Row) (op : Operand) (o : Out) :
    undocumented r op s o = complete r op s s := by
  rw [undocumented, h]

/-- An undocumented opcode with the default ending has it in both modes; in `skip` mode with nothing changed. -/
theorem undocumented_complete (r : Row) (op : Operand) (s t : State) :
    undocumented r op s (complete r op s t) = complete r op s (if s.variant.undocMode = .full then t else s) := by
  cases h : s.variant.undocMode <;> simp [undocumented, h]

/-- The cost is the base count, or one more. -/
theorem cost_bounds (r : Row) (op : Operand) (s : State) : r.cycles ≤ cost r op s ∧ cost r op s ≤ r.cycles + 1 := by
  unfold cost
  split <;> omega

/-- A row without the penalty costs its base count. -/
theorem cost_of_no_penalty {r : Row} (h : r.pageCrossPenalty = false) (op : Operand) (s : State) :
    cost r op s = r.cycles := by
  simp [cost, h]

/-- The mode, the index registers and the page comparison read no flag and neither counter; so no update of these moves
an effective address. -/
theorem effAddr_congr {s t : State} (hx : s.x = t.x) (hy : s.y = t.y) (hp : s.pc = t.pc) (hm : s.mem = t.mem)
    (op : Operand) : effAddr op s = effAddr op t := by
  have hr : ∀ p, s.read p = t.read p := State.read_congr hm
  cases op <;> simp [effAddr, zeroPagePointer, pagePointer, branchTarget, branchNext, hx, hy, hp, hr]

theorem pageCrossed_congr {s t : State} (hx : s.x = t.x) (hy : s.y = t.y) (hp : s.pc = t.pc) (hm : s.mem = t.mem)
    (op : Operand) : pageCrossed op s = pageCrossed op t := by
  have he := effAddr_congr hx hy hp hm op
  cases op <;> simp [pageCrossed, he, zeroPagePointer, State.read_congr hm]

theorem operandByte_congr {s t : State} (ha : s.a = t.a) (hx : s.x = t.x) (hy : s.y = t.y) (hp : s.pc = t.pc)
    (hm : s.mem = t.mem) (op : Operand) : operandByte op s = operandByte op t := by
  have he := effAddr_congr hx hy hp hm op
  cases op <;> simp [operandByte, he, ha, State.read_congr hm]

theorem cost_congr {s t : State} (hx : s.x = t.x) (hy : s.y = t.y) (hp : s.pc = t.pc) (hm : s.mem = t.mem) (r : Row)
    (op : Operand) : cost r op s = cost r op t := by
  rw [cost, cost, pageCrossed_congr hx hy hp hm]

end Sys2Proof.Machine
end

