-- ==== Sys2Proof/Laws/Ending.lean ====
section
/-! SUPPORT. The ending of an instruction in the words the claims use (`Safety.defaultEnding`), and N and Z bit by bit. -/

namespace Sys2Proof.Machine

open Sys2Proof.Safety

/-- `complete` on an instruction's own row and operand is the default ending of R12. -/
theorem complete_eq_defaultEnding (i : Instr) (s t : State) :
    complete i.row i.operand s t = .next (defaultEnding i s t) := by
  simp only [complete, cost, defaultEnding, Bool.and_eq_true, Nat.add_assoc]

/-- `setNZ` with N as bit 7 (R11). -/
theorem State.setNZ_eq (s : State) (v : Byte) :
    s.setNZ v = { s with flagN := v.getLsbD 7, flagZ := decide (v = 0) } := by
  rw [State.setNZ, BitVec.msb_eq_getLsbD_last]

/-- `A <- setNZ(v)` with N as bit 7. -/
theorem State.loadA_eq (s : State) (v : Byte) :
    s.loadA v = { s with a := v, flagN := v.getLsbD 7, flagZ := decide (v = 0) } :=
  State.setNZ_eq (s.setA v) v

/-- `X <- setNZ(v)` with N as bit 7. -/
theorem State.loadX_eq (s : State) (v : Byte) :
    s.loadX v = { s with x := v, flagN := v.getLsbD 7, flagZ := decide (v = 0) } :=
  State.setNZ_eq (s.setX v) v

/-- `Y <- setNZ(v)` with N as bit 7. -/
theorem State.loadY_eq (s : State) (v : Byte) :
    s.loadY v = { s with y := v, flagN := v.getLsbD 7, flagZ := decide (v = 0) } :=
  State.setNZ_eq (s.setY v) v

/-- Bit 7 of a byte says that it is 128 or more. -/
theorem getLsbD_seven_eq (v : Byte) : v.getLsbD 7 = decide (v.toNat ≥ 128) := by
  rw [← BitVec.msb_eq_getLsbD_last v, BitVec.msb_eq_decide]

/-- The cell of a stack pointer in the claims is the one the machine uses. -/
theorem stackCell_eq (sp : Byte) : stackCell sp = stackAddr sp := (stackAddr_eq sp).symm

end Sys2Proof.Machine
end

