-- ==== Sys2Proof/Laws/Flags.lean ====
section
/-! SUPPORT. Compare and the one-bit shifts as arithmetic on numbers (R163, R170 to R173), and N and Z of a byte. -/

namespace Sys2Proof.Machine

/-- Bit 6 of a byte as a number. -/
theorem getLsbD_six_eq (v : Byte) : v.getLsbD 6 = decide (v.toNat % 128 ≥ 64) := by
  have h : ∀ k : Fin 256, (BitVec.ofFin k : Byte).getLsbD 6 = decide (k.val % 128 ≥ 64) := by decide +kernel
  exact h v.toFin

/-- Zero as a number. -/
theorem decide_eq_zero (v : Byte) : decide (v = 0) = decide (v.toNat = 0) := by
  simp only [← BitVec.toNat_inj]
  rfl

/-- The three flags of a compare (R163). -/
theorem State.compare_eq (s : State) (r m : Byte) :
    s.compare r m = { s with
      flagC := decide (r.toNat ≥ m.toNat)
      flagZ := decide (r = m)
      flagN := decide ((r.toNat + 256 - m.toNat) % 256 ≥ 128) } := by
  have hr := r.isLt
  have hm := m.isLt
  have hn : (r - m).toNat = (r.toNat + 256 - m.toNat) % 256 := by
    rw [BitVec.toNat_sub]
    omega
  have hz : r - m = 0 ↔ r = m := sub_eq_zero
  simp only [State.compare, State.setNZ_eq, State.setC, getLsbD_seven_eq, hn, hz, ge_iff_le]

theorem shiftLeft_eq (m : Byte) : shiftLeft m = ⟨BitVec.ofNat 8 (m.toNat * 2 % 256), decide (m.toNat ≥ 128)⟩ := by
  have h : ∀ k : Fin 256, shiftLeft (BitVec.ofFin k) = ⟨BitVec.ofNat 8 (k.val * 2 % 256), decide (k.val ≥ 128)⟩ := by
    decide +kernel
  exact h m.toFin

theorem shiftRight_eq (m : Byte) : shiftRight m = ⟨BitVec.ofNat 8 (m.toNat / 2), decide (m.toNat % 2 = 1)⟩ := by
  have h : ∀ k : Fin 256, shiftRight (BitVec.ofFin k) = ⟨BitVec.ofNat 8 (k.val / 2), decide (k.val % 2 = 1)⟩ := by
    decide +kernel
  exact h m.toFin

theorem rotateLeft_eq (m : Byte) (c : Bool) :
    rotateLeft m c = ⟨BitVec.ofNat 8 (m.toNat * 2 % 256 + c.toNat), decide (m.toNat ≥ 128)⟩ := by
  have h : ∀ (c : Bool) (k : Fin 256), rotateLeft (BitVec.ofFin k) c =
      ⟨BitVec.ofNat 8 (k.val * 2 % 256 + c.toNat), decide (k.val ≥ 128)⟩ := by decide +kernel
  exact h c m.toFin

theorem rotateRight_eq (m : Byte) (c : Bool) :
    rotateRight m c = ⟨BitVec.ofNat 8 (m.toNat / 2 + 128 * c.toNat), decide (m.toNat % 2 = 1)⟩ := by
  have h : ∀ (c : Bool) (k : Fin 256), rotateRight (BitVec.ofFin k) c =
      ⟨BitVec.ofNat 8 (k.val / 2 + 128 * c.toNat), decide (k.val % 2 = 1)⟩ := by decide +kernel
  exact h c m.toFin

/-- The next byte up, as a number. -/
theorem add_one_eq (v : Byte) : v + 1 = BitVec.ofNat 8 (v.toNat + 1) := by
  apply BitVec.eq_of_toNat_eq
  simp [BitVec.toNat_add]

/-- The next byte down, as a number. -/
theorem sub_one_eq (v : Byte) : v - 1 = BitVec.ofNat 8 (v.toNat + 255) := by
  apply BitVec.eq_of_toNat_eq
  have := v.isLt
  simp [BitVec.toNat_sub]
  omega

end Sys2Proof.Machine
end

