-- ==== Sys2Proof/Laws/HostOps.lean ====
section
/-! SUPPORT. What the host's operations leave (R332, R340 to R344) and what the interrupt entries of R304 would do. -/

namespace Sys2Proof.Machine

/-! ## Reset -/

@[simp] theorem State.hostReset_mem (s : State) : s.hostReset.mem = s.mem := rfl
@[simp] theorem State.hostReset_variant (s : State) : s.hostReset.variant = s.variant := rfl
@[simp] theorem State.hostReset_lastPC (s : State) : s.hostReset.lastPC = s.lastPC := rfl
@[simp] theorem State.hostReset_flagD (s : State) : s.hostReset.flagD = s.flagD := rfl
@[simp] theorem State.hostReset_read (s : State) (p : Addr) : s.hostReset.read p = s.read p := rfl

/-! ## Seed -/

/-- Seeding keeps the canonical form. -/
theorem State.seed_wf {s : State} (h : s.mem.wf = true) (base : Addr) (bytes : List Byte) :
    (s.seed base bytes).mem.wf = true :=
  State.writeBytes_wf bytes s base h

@[simp] theorem State.seed_nil (s : State) (base : Addr) : s.seed base [] = s := rfl

theorem State.seed_cons (s : State) (base : Addr) (b : Byte) (rest : List Byte) :
    s.seed base (b :: rest) = (s.write base b).seed (base + 1) rest := rfl

@[simp] theorem State.inspect_length (s : State) (base : Addr) (n : Nat) : (s.inspect base n).length = n :=
  State.readBytes_length n s base

theorem State.inspect_succ (s : State) (base : Addr) (n : Nat) :
    s.inspect base (n + 1) = s.read base :: s.inspect (base + 1) n := rfl

/-! ## Run -/

/-- A run whose budget is used up returns at once (R344). -/
theorem runLoop_done {k start budget : Nat} {s : State} (h : budget ≤ s.cycles - start) :
    runLoop k start budget s = .next s := by
  cases k with
  | zero => rfl
  | succ k => rw [runLoop, if_neg (by omega)]

/-- A run whose budget is not used up takes one step and goes on (R344). -/
theorem runLoop_step {k start budget : Nat} {s t : State} (h : s.cycles - start < budget) (ht : step s = .next t) :
    runLoop (k + 1) start budget s = runLoop k start budget t := by
  rw [runLoop, if_pos h, ht]

/-! ## Interrupts -/

/-- With neither input asserted nothing happens. -/
@[simp] theorem State.takeInterrupt_none (s : State) : s.takeInterrupt false false = s := rfl

/-- An NMI is taken whatever the flag I and the other input (R304). -/
theorem State.takeInterrupt_nmi (s : State) (irq : Bool) :
    s.takeInterrupt true irq = (s.enterTrap s.pc false nmiVector).addCycles 7 := rfl

/-- With I set an IRQ is not taken (R304). -/
theorem State.takeInterrupt_masked {s : State} (h : s.flagI = true) : s.takeInterrupt false true = s := by
  simp [State.takeInterrupt, h]

/-- With I clear an IRQ is taken (R304). -/
theorem State.takeInterrupt_irq {s : State} (h : s.flagI = false) :
    s.takeInterrupt false true = (s.enterTrap s.pc false irqVector).addCycles 7 := by
  simp [State.takeInterrupt, h]

end Sys2Proof.Machine
end

