-- ==== Sys2Proof/Laws/PerInstr.lean ====
section
/-! SUPPORT. For every instruction, its row of the opcode table and its operand go together (R71, R74): one lemma per
constructor. -/

namespace Sys2Proof.Laws

/-- The operand has the mode of the row, the encoding has the length of that mode, its first byte is the opcode, and
the row's cost lies in the range of R355. -/
def RowFit.Statement (i : Instr) : Prop :=
  i.wellFormed = true ∧ (encode i).length = i.row.mode.length ∧ (encode i).head? = some i.opcode ∧
    2 ≤ i.row.cycles ∧ i.row.cycles ≤ 8

theorem RowFit.brk : RowFit.Statement .brk := ⟨rfl, rfl, rfl, Nat.le_of_ble_eq_true rfl, Nat.le_of_ble_eq_true rfl⟩
theorem RowFit.oraIzx (d : Byte) : RowFit.Statement (.oraIzx d) := ⟨rfl, rfl, rfl, Nat.le_of_ble_eq_true rfl, Nat.le_of_ble_eq_true rfl⟩
theorem RowFit.jam02 : RowFit.Statement .jam02 := ⟨rfl, rfl, rfl, Nat.le_of_ble_eq_true rfl, Nat.le_of_ble_eq_true rfl⟩
theorem RowFit.sloIzx (d : Byte) : RowFit.Statement (.sloIzx d) := ⟨rfl, rfl, rfl, Nat.le_of_ble_eq_true rfl, Nat.le_of_ble_eq_true rfl⟩
theorem RowFit.nopZp04 (d : Byte) : RowFit.Statement (.nopZp04 d) := ⟨rfl, rfl, rfl, Nat.le_of_ble_eq_true rfl, Nat.le_of_ble_eq_true rfl⟩
theorem RowFit.oraZp (d : Byte) : RowFit.Statement (.oraZp d) := ⟨rfl, rfl, rfl, Nat.le_of_ble_eq_true rfl, Nat.le_of_ble_eq_true rfl⟩
theorem RowFit.aslZp (d : Byte) : RowFit.Statement (.aslZp d) := ⟨rfl, rfl, rfl, Nat.le_of_ble_eq_true rfl, Nat.le_of_ble_eq_true rfl⟩
theorem RowFit.sloZp (d : Byte) : RowFit.Statement (.sloZp d) := ⟨rfl, rfl, rfl, Nat.le_of_ble_eq_true rfl, Nat.le_of_ble_eq_true rfl⟩
theorem RowFit.php : RowFit.Statement .php := ⟨rfl, rfl, rfl, Nat.le_of_ble_eq_true rfl, Nat.le_of_ble_eq_true rfl⟩
theorem RowFit.oraImm (d : Byte) : RowFit.Statement (.oraImm d) := ⟨rfl, rfl, rfl, Nat.le_of_ble_eq_true rfl, Nat.le_of_ble_eq_true rfl⟩
theorem RowFit.aslAcc : RowFit.Statement .aslAcc := ⟨rfl, rfl, rfl, Nat.le_of_ble_eq_true rfl, Nat.le_of_ble_eq_true rfl⟩
theorem RowFit.ancImm0B (d : Byte) : RowFit.Statement (.ancImm0B d) := ⟨rfl, rfl, rfl, Nat.le_of_ble_eq_true rfl, Nat.le_of_ble_eq_true rfl⟩
theorem RowFit.nopAbs (w : Addr) : RowFit.Statement (.nopAbs w) := ⟨rfl, rfl, rfl, Nat.le_of_ble_eq_true rfl, Nat.le_of_ble_eq_true rfl⟩
theorem RowFit.oraAbs (w : Addr) : RowFit.Statement (.oraAbs w) := ⟨rfl, rfl, rfl, Nat.le_of_ble_eq_true rfl, Nat.le_of_ble_eq_true rfl⟩
theorem RowFit.aslAbs (w : Addr) : RowFit.Statement (.aslAbs w) := ⟨rfl, rfl, rfl, Nat.le_of_ble_eq_true rfl, Nat.le_of_ble_eq_true rfl⟩
theorem RowFit.sloAbs (w : Addr) : RowFit.Statement (.sloAbs w) := ⟨rfl, rfl, rfl, Nat.le_of_ble_eq_true rfl, Nat.le_of_ble_eq_true rfl⟩
theorem RowFit.bpl (d : Byte) : RowFit.Statement (.bpl d) := ⟨rfl, rfl, rfl, Nat.le_of_ble_eq_true rfl, Nat.le_of_ble_eq_true rfl⟩
theorem RowFit.oraIzy (d : Byte) : RowFit.Statement (.oraIzy d) := ⟨rfl, rfl, rfl, Nat.le_of_ble_eq_true rfl, Nat.le_of_ble_eq_true rfl⟩
theorem RowFit.jam12 : RowFit.Statement .jam12 := ⟨rfl, rfl, rfl, Nat.le_of_ble_eq_true rfl, Nat.le_of_ble_eq_true rfl⟩
theorem RowFit.sloIzy (d : Byte) : RowFit.Statement (.sloIzy d) := ⟨rfl, rfl, rfl, Nat.le_of_ble_eq_true rfl, Nat.le_of_ble_eq_true rfl⟩
theorem RowFit.nopZpx14 (d : Byte) : RowFit.Statement (.nopZpx14 d) := ⟨rfl, rfl, rfl, Nat.le_of_ble_eq_true rfl, Nat.le_of_ble_eq_true rfl⟩
theorem RowFit.oraZpx (d : Byte) : RowFit.Statement (.oraZpx d) := ⟨rfl, rfl, rfl, Nat.le_of_ble_eq_true rfl, Nat.le_of_ble_eq_true rfl⟩
theorem RowFit.aslZpx (d : Byte) : RowFit.Statement (.aslZpx d) := ⟨rfl, rfl, rfl, Nat.le_of_ble_eq_true rfl, Nat.le_of_ble_eq_true rfl⟩
theorem RowFit.sloZpx (d : Byte) : RowFit.Statement (.sloZpx d) := ⟨rfl, rfl, rfl, Nat.le_of_ble_eq_true rfl, Nat.le_of_ble_eq_true rfl⟩
theorem RowFit.clc : RowFit.Statement .clc := ⟨rfl, rfl, rfl, Nat.le_of_ble_eq_true rfl, Nat.le_of_ble_eq_true rfl⟩
theorem RowFit.oraAby (w : Addr) : RowFit.Statement (.oraAby w) := ⟨rfl, rfl, rfl, Nat.le_of_ble_eq_true rfl, Nat.le_of_ble_eq_true rfl⟩
theorem RowFit.nop1A : RowFit.Statement .nop1A := ⟨rfl, rfl, rfl, Nat.le_of_ble_eq_true rfl, Nat.le_of_ble_eq_true rfl⟩
theorem RowFit.sloAby (w : Addr) : RowFit.Statement (.sloAby w) := ⟨rfl, rfl, rfl, Nat.le_of_ble_eq_true rfl, Nat.le_of_ble_eq_true rfl⟩
theorem RowFit.nopAbx1C (w : Addr) : RowFit.Statement (.nopAbx1C w) := ⟨rfl, rfl, rfl, Nat.le_of_ble_eq_true rfl, Nat.le_of_ble_eq_true rfl⟩
theorem RowFit.oraAbx (w : Addr) : RowFit.Statement (.oraAbx w) := ⟨rfl, rfl, rfl, Nat.le_of_ble_eq_true rfl, Nat.le_of_ble_eq_true rfl⟩
theorem RowFit.aslAbx (w : Addr) : RowFit.Statement (.aslAbx w) := ⟨rfl, rfl, rfl, Nat.le_of_ble_eq_true rfl, Nat.le_of_ble_eq_true rfl⟩
theorem RowFit.sloAbx (w : Addr) : RowFit.Statement (.sloAbx w) := ⟨rfl, rfl, rfl, Nat.le_of_ble_eq_true rfl, Nat.le_of_ble_eq_true rfl⟩
theorem RowFit.jsrAbs (w : Addr) : RowFit.Statement (.jsrAbs w) := ⟨rfl, rfl, rfl, Nat.le_of_ble_eq_true rfl, Nat.le_of_ble_eq_true rfl⟩
theorem RowFit.andIzx (d : Byte) : RowFit.Statement (.andIzx d) := ⟨rfl, rfl, rfl, Nat.le_of_ble_eq_true rfl, Nat.le_of_ble_eq_true rfl⟩
theorem RowFit.jam22 : RowFit.Statement .jam22 := ⟨rfl, rfl, rfl, Nat.le_of_ble_eq_true rfl, Nat.le_of_ble_eq_true rfl⟩
theorem RowFit.rlaIzx (d : Byte) : RowFit.Statement (.rlaIzx d) := ⟨rfl, rfl, rfl, Nat.le_of_ble_eq_true rfl, Nat.le_of_ble_eq_true rfl⟩
theorem RowFit.bitZp (d : Byte) : RowFit.Statement (.bitZp d) := ⟨rfl, rfl, rfl, Nat.le_of_ble_eq_true rfl, Nat.le_of_ble_eq_true rfl⟩
theorem RowFit.andZp (d : Byte) : RowFit.Statement (.andZp d) := ⟨rfl, rfl, rfl, Nat.le_of_ble_eq_true rfl, Nat.le_of_ble_eq_true rfl⟩
theorem RowFit.rolZp (d : Byte) : RowFit.Statement (.rolZp d) := ⟨rfl, rfl, rfl, Nat.le_of_ble_eq_true rfl, Nat.le_of_ble_eq_true rfl⟩
theorem RowFit.rlaZp (d : Byte) : RowFit.Statement (.rlaZp d) := ⟨rfl, rfl, rfl, Nat.le_of_ble_eq_true rfl, Nat.le_of_ble_eq_true rfl⟩
theorem RowFit.plp : RowFit.Statement .plp := ⟨rfl, rfl, rfl, Nat.le_of_ble_eq_true rfl, Nat.le_of_ble_eq_true rfl⟩
theorem RowFit.andImm (d : Byte) : RowFit.Statement (.andImm d) := ⟨rfl, rfl, rfl, Nat.le_of_ble_eq_true rfl, Nat.le_of_ble_eq_true rfl⟩
theorem RowFit.rolAcc : RowFit.Statement .rolAcc := ⟨rfl, rfl, rfl, Nat.le_of_ble_eq_true rfl, Nat.le_of_ble_eq_true rfl⟩
theorem RowFit.ancImm2B (d : Byte) : RowFit.Statement (.ancImm2B d) := ⟨rfl, rfl, rfl, Nat.le_of_ble_eq_true rfl, Nat.le_of_ble_eq_true rfl⟩
theorem RowFit.bitAbs (w : Addr) : RowFit.Statement (.bitAbs w) := ⟨rfl, rfl, rfl, Nat.le_of_ble_eq_true rfl, Nat.le_of_ble_eq_true rfl⟩
theorem RowFit.andAbs (w : Addr) : RowFit.Statement (.andAbs w) := ⟨rfl, rfl, rfl, Nat.le_of_ble_eq_true rfl, Nat.le_of_ble_eq_true rfl⟩
theorem RowFit.rolAbs (w : Addr) : RowFit.Statement (.rolAbs w) := ⟨rfl, rfl, rfl, Nat.le_of_ble_eq_true rfl, Nat.le_of_ble_eq_true rfl⟩
theorem RowFit.rlaAbs (w : Addr) : RowFit.Statement (.rlaAbs w) := ⟨rfl, rfl, rfl, Nat.le_of_ble_eq_true rfl, Nat.le_of_ble_eq_true rfl⟩
theorem RowFit.bmi (d : Byte) : RowFit.Statement (.bmi d) := ⟨rfl, rfl, rfl, Nat.le_of_ble_eq_true rfl, Nat.le_of_ble_eq_true rfl⟩
theorem RowFit.andIzy (d : Byte) : RowFit.Statement (.andIzy d) := ⟨rfl, rfl, rfl, Nat.le_of_ble_eq_true rfl, Nat.le_of_ble_eq_true rfl⟩
theorem RowFit.jam32 : RowFit.Statement .jam32 := ⟨rfl, rfl, rfl, Nat.le_of_ble_eq_true rfl, Nat.le_of_ble_eq_true rfl⟩
theorem RowFit.rlaIzy (d : Byte) : RowFit.Statement (.rlaIzy d) := ⟨rfl, rfl, rfl, Nat.le_of_ble_eq_true rfl, Nat.le_of_ble_eq_true rfl⟩
theorem RowFit.nopZpx34 (d : Byte) : RowFit.Statement (.nopZpx34 d) := ⟨rfl, rfl, rfl, Nat.le_of_ble_eq_true rfl, Nat.le_of_ble_eq_true rfl⟩
theorem RowFit.andZpx (d : Byte) : RowFit.Statement (.andZpx d) := ⟨rfl, rfl, rfl, Nat.le_of_ble_eq_true rfl, Nat.le_of_ble_eq_true rfl⟩
theorem RowFit.rolZpx (d : Byte) : RowFit.Statement (.rolZpx d) := ⟨rfl, rfl, rfl, Nat.le_of_ble_eq_true rfl, Nat.le_of_ble_eq_true rfl⟩
theorem RowFit.rlaZpx (d : Byte) : RowFit.Statement (.rlaZpx d) := ⟨rfl, rfl, rfl, Nat.le_of_ble_eq_true rfl, Nat.le_of_ble_eq_true rfl⟩
theorem RowFit.sec : RowFit.Statement .sec := ⟨rfl, rfl, rfl, Nat.le_of_ble_eq_true rfl, Nat.le_of_ble_eq_true rfl⟩
theorem RowFit.andAby (w : Addr) : RowFit.Statement (.andAby w) := ⟨rfl, rfl, rfl, Nat.le_of_ble_eq_true rfl, Nat.le_of_ble_eq_true rfl⟩
theorem RowFit.nop3A : RowFit.Statement .nop3A := ⟨rfl, rfl, rfl, Nat.le_of_ble_eq_true rfl, Nat.le_of_ble_eq_true rfl⟩
theorem RowFit.rlaAby (w : Addr) : RowFit.Statement (.rlaAby w) := ⟨rfl, rfl, rfl, Nat.le_of_ble_eq_true rfl, Nat.le_of_ble_eq_true rfl⟩
theorem RowFit.nopAbx3C (w : Addr) : RowFit.Statement (.nopAbx3C w) := ⟨rfl, rfl, rfl, Nat.le_of_ble_eq_true rfl, Nat.le_of_ble_eq_true rfl⟩
theorem RowFit.andAbx (w : Addr) : RowFit.Statement (.andAbx w) := ⟨rfl, rfl, rfl, Nat.le_of_ble_eq_true rfl, Nat.le_of_ble_eq_true rfl⟩
theorem RowFit.rolAbx (w : Addr) : RowFit.Statement (.rolAbx w) := ⟨rfl, rfl, rfl, Nat.le_of_ble_eq_true rfl, Nat.le_of_ble_eq_true rfl⟩
theorem RowFit.rlaAbx (w : Addr) : RowFit.Statement (.rlaAbx w) := ⟨rfl, rfl, rfl, Nat.le_of_ble_eq_true rfl, Nat.le_of_ble_eq_true rfl⟩
theorem RowFit.rti : RowFit.Statement .rti := ⟨rfl, rfl, rfl, Nat.le_of_ble_eq_true rfl, Nat.le_of_ble_eq_true rfl⟩
theorem RowFit.eorIzx (d : Byte) : RowFit.Statement (.eorIzx d) := ⟨rfl, rfl, rfl, Nat.le_of_ble_eq_true rfl, Nat.le_of_ble_eq_true rfl⟩
theorem RowFit.jam42 : RowFit.Statement .jam42 := ⟨rfl, rfl, rfl, Nat.le_of_ble_eq_true rfl, Nat.le_of_ble_eq_true rfl⟩
theorem RowFit.sreIzx (d : Byte) : RowFit.Statement (.sreIzx d) := ⟨rfl, rfl, rfl, Nat.le_of_ble_eq_true rfl, Nat.le_of_ble_eq_true rfl⟩
theorem RowFit.nopZp44 (d : Byte) : RowFit.Statement (.nopZp44 d) := ⟨rfl, rfl, rfl, Nat.le_of_ble_eq_true rfl, Nat.le_of_ble_eq_true rfl⟩
theorem RowFit.eorZp (d : Byte) : RowFit.Statement (.eorZp d) := ⟨rfl, rfl, rfl, Nat.le_of_ble_eq_true rfl, Nat.le_of_ble_eq_true rfl⟩
theorem RowFit.lsrZp (d : Byte) : RowFit.Statement (.lsrZp d) := ⟨rfl, rfl, rfl, Nat.le_of_ble_eq_true rfl, Nat.le_of_ble_eq_true rfl⟩
theorem RowFit.sreZp (d : Byte) : RowFit.Statement (.sreZp d) := ⟨rfl, rfl, rfl, Nat.le_of_ble_eq_true rfl, Nat.le_of_ble_eq_true rfl⟩
theorem RowFit.pha : RowFit.Statement .pha := ⟨rfl, rfl, rfl, Nat.le_of_ble_eq_true rfl, Nat.le_of_ble_eq_true rfl⟩
theorem RowFit.eorImm (d : Byte) : RowFit.Statement (.eorImm d) := ⟨rfl, rfl, rfl, Nat.le_of_ble_eq_true rfl, Nat.le_of_ble_eq_true rfl⟩
theorem RowFit.lsrAcc : RowFit.Statement .lsrAcc := ⟨rfl, rfl, rfl, Nat.le_of_ble_eq_true rfl, Nat.le_of_ble_eq_true rfl⟩
theorem RowFit.alrImm (d : Byte) : RowFit.Statement (.alrImm d) := ⟨rfl, rfl, rfl, Nat.le_of_ble_eq_true rfl, Nat.le_of_ble_eq_true rfl⟩
theorem RowFit.jmpAbs (w : Addr) : RowFit.Statement (.jmpAbs w) := ⟨rfl, rfl, rfl, Nat.le_of_ble_eq_true rfl, Nat.le_of_ble_eq_true rfl⟩
theorem RowFit.eorAbs (w : Addr) : RowFit.Statement (.eorAbs w) := ⟨rfl, rfl, rfl, Nat.le_of_ble_eq_true rfl, Nat.le_of_ble_eq_true rfl⟩
theorem RowFit.lsrAbs (w : Addr) : RowFit.Statement (.lsrAbs w) := ⟨rfl, rfl, rfl, Nat.le_of_ble_eq_true rfl, Nat.le_of_ble_eq_true rfl⟩
theorem RowFit.sreAbs (w : Addr) : RowFit.Statement (.sreAbs w) := ⟨rfl, rfl, rfl, Nat.le_of_ble_eq_true rfl, Nat.le_of_ble_eq_true rfl⟩
theorem RowFit.bvc (d : Byte) : RowFit.Statement (.bvc d) := ⟨rfl, rfl, rfl, Nat.le_of_ble_eq_true rfl, Nat.le_of_ble_eq_true rfl⟩
theorem RowFit.eorIzy (d : Byte) : RowFit.Statement (.eorIzy d) := ⟨rfl, rfl, rfl, Nat.le_of_ble_eq_true rfl, Nat.le_of_ble_eq_true rfl⟩
theorem RowFit.jam52 : RowFit.Statement .jam52 := ⟨rfl, rfl, rfl, Nat.le_of_ble_eq_true rfl, Nat.le_of_ble_eq_true rfl⟩
theorem RowFit.sreIzy (d : Byte) : RowFit.Statement (.sreIzy d) := ⟨rfl, rfl, rfl, Nat.le_of_ble_eq_true rfl, Nat.le_of_ble_eq_true rfl⟩
theorem RowFit.nopZpx54 (d : Byte) : RowFit.Statement (.nopZpx54 d) := ⟨rfl, rfl, rfl, Nat.le_of_ble_eq_true rfl, Nat.le_of_ble_eq_true rfl⟩
theorem RowFit.eorZpx (d : Byte) : RowFit.Statement (.eorZpx d) := ⟨rfl, rfl, rfl, Nat.le_of_ble_eq_true rfl, Nat.le_of_ble_eq_true rfl⟩
theorem RowFit.lsrZpx (d : Byte) : RowFit.Statement (.lsrZpx d) := ⟨rfl, rfl, rfl, Nat.le_of_ble_eq_true rfl, Nat.le_of_ble_eq_true rfl⟩
theorem RowFit.sreZpx (d : Byte) : RowFit.Statement (.sreZpx d) := ⟨rfl, rfl, rfl, Nat.le_of_ble_eq_true rfl, Nat.le_of_ble_eq_true rfl⟩
theorem RowFit.cli : RowFit.Statement .cli := ⟨rfl, rfl, rfl, Nat.le_of_ble_eq_true rfl, Nat.le_of_ble_eq_true rfl⟩
theorem RowFit.eorAby (w : Addr) : RowFit.Statement (.eorAby w) := ⟨rfl, rfl, rfl, Nat.le_of_ble_eq_true rfl, Nat.le_of_ble_eq_true rfl⟩
theorem RowFit.nop5A : RowFit.Statement .nop5A := ⟨rfl, rfl, rfl, Nat.le_of_ble_eq_true rfl, Nat.le_of_ble_eq_true rfl⟩
theorem RowFit.sreAby (w : Addr) : RowFit.Statement (.sreAby w) := ⟨rfl, rfl, rfl, Nat.le_of_ble_eq_true rfl, Nat.le_of_ble_eq_true rfl⟩
theorem RowFit.nopAbx5C (w : Addr) : RowFit.Statement (.nopAbx5C w) := ⟨rfl, rfl, rfl, Nat.le_of_ble_eq_true rfl, Nat.le_of_ble_eq_true rfl⟩
theorem RowFit.eorAbx (w : Addr) : RowFit.Statement (.eorAbx w) := ⟨rfl, rfl, rfl, Nat.le_of_ble_eq_true rfl, Nat.le_of_ble_eq_true rfl⟩
theorem RowFit.lsrAbx (w : Addr) : RowFit.Statement (.lsrAbx w) := ⟨rfl, rfl, rfl, Nat.le_of_ble_eq_true rfl, Nat.le_of_ble_eq_true rfl⟩
theorem RowFit.sreAbx (w : Addr) : RowFit.Statement (.sreAbx w) := ⟨rfl, rfl, rfl, Nat.le_of_ble_eq_true rfl, Nat.le_of_ble_eq_true rfl⟩
theorem RowFit.rts : RowFit.Statement .rts := ⟨rfl, rfl, rfl, Nat.le_of_ble_eq_true rfl, Nat.le_of_ble_eq_true rfl⟩
theorem RowFit.adcIzx (d : Byte) : RowFit.Statement (.adcIzx d) := ⟨rfl, rfl, rfl, Nat.le_of_ble_eq_true rfl, Nat.le_of_ble_eq_true rfl⟩
theorem RowFit.jam62 : RowFit.Statement .jam62 := ⟨rfl, rfl, rfl, Nat.le_of_ble_eq_true rfl, Nat.le_of_ble_eq_true rfl⟩
theorem RowFit.rraIzx (d : Byte) : RowFit.Statement (.rraIzx d) := ⟨rfl, rfl, rfl, Nat.le_of_ble_eq_true rfl, Nat.le_of_ble_eq_true rfl⟩
theorem RowFit.nopZp64 (d : Byte) : RowFit.Statement (.nopZp64 d) := ⟨rfl, rfl, rfl, Nat.le_of_ble_eq_true rfl, Nat.le_of_ble_eq_true rfl⟩
theorem RowFit.adcZp (d : Byte) : RowFit.Statement (.adcZp d) := ⟨rfl, rfl, rfl, Nat.le_of_ble_eq_true rfl, Nat.le_of_ble_eq_true rfl⟩
theorem RowFit.rorZp (d : Byte) : RowFit.Statement (.rorZp d) := ⟨rfl, rfl, rfl, Nat.le_of_ble_eq_true rfl, Nat.le_of_ble_eq_true rfl⟩
theorem RowFit.rraZp (d : Byte) : RowFit.Statement (.rraZp d) := ⟨rfl, rfl, rfl, Nat.le_of_ble_eq_true rfl, Nat.le_of_ble_eq_true rfl⟩
theorem RowFit.pla : RowFit.Statement .pla := ⟨rfl, rfl, rfl, Nat.le_of_ble_eq_true rfl, Nat.le_of_ble_eq_true rfl⟩
theorem RowFit.adcImm (d : Byte) : RowFit.Statement (.adcImm d) := ⟨rfl, rfl, rfl, Nat.le_of_ble_eq_true rfl, Nat.le_of_ble_eq_true rfl⟩
theorem RowFit.rorAcc : RowFit.Statement .rorAcc := ⟨rfl, rfl, rfl, Nat.le_of_ble_eq_true rfl, Nat.le_of_ble_eq_true rfl⟩
theorem RowFit.arrImm (d : Byte) : RowFit.Statement (.arrImm d) := ⟨rfl, rfl, rfl, Nat.le_of_ble_eq_true rfl, Nat.le_of_ble_eq_true rfl⟩
theorem RowFit.jmpInd (w : Addr) : RowFit.Statement (.jmpInd w) := ⟨rfl, rfl, rfl, Nat.le_of_ble_eq_true rfl, Nat.le_of_ble_eq_true rfl⟩
theorem RowFit.adcAbs (w : Addr) : RowFit.Statement (.adcAbs w) := ⟨rfl, rfl, rfl, Nat.le_of_ble_eq_true rfl, Nat.le_of_ble_eq_true rfl⟩
theorem RowFit.rorAbs (w : Addr) : RowFit.Statement (.rorAbs w) := ⟨rfl, rfl, rfl, Nat.le_of_ble_eq_true rfl, Nat.le_of_ble_eq_true rfl⟩
theorem RowFit.rraAbs (w : Addr) : RowFit.Statement (.rraAbs w) := ⟨rfl, rfl, rfl, Nat.le_of_ble_eq_true rfl, Nat.le_of_ble_eq_true rfl⟩
theorem RowFit.bvs (d : Byte) : RowFit.Statement (.bvs d) := ⟨rfl, rfl, rfl, Nat.le_of_ble_eq_true rfl, Nat.le_of_ble_eq_true rfl⟩
theorem RowFit.adcIzy (d : Byte) : RowFit.Statement (.adcIzy d) := ⟨rfl, rfl, rfl, Nat.le_of_ble_eq_true rfl, Nat.le_of_ble_eq_true rfl⟩
theorem RowFit.jam72 : RowFit.Statement .jam72 := ⟨rfl, rfl, rfl, Nat.le_of_ble_eq_true rfl, Nat.le_of_ble_eq_true rfl⟩
theorem RowFit.rraIzy (d : Byte) : RowFit.Statement (.rraIzy d) := ⟨rfl, rfl, rfl, Nat.le_of_ble_eq_true rfl, Nat.le_of_ble_eq_true rfl⟩
theorem RowFit.nopZpx74 (d : Byte) : RowFit.Statement (.nopZpx74 d) := ⟨rfl, rfl, rfl, Nat.le_of_ble_eq_true rfl, Nat.le_of_ble_eq_true rfl⟩
theorem RowFit.adcZpx (d : Byte) : RowFit.Statement (.adcZpx d) := ⟨rfl, rfl, rfl, Nat.le_of_ble_eq_true rfl, Nat.le_of_ble_eq_true rfl⟩
theorem RowFit.rorZpx (d : Byte) : RowFit.Statement (.rorZpx d) := ⟨rfl, rfl, rfl, Nat.le_of_ble_eq_true rfl, Nat.le_of_ble_eq_true rfl⟩
theorem RowFit.rraZpx (d : Byte) : RowFit.Statement (.rraZpx d) := ⟨rfl, rfl, rfl, Nat.le_of_ble_eq_true rfl, Nat.le_of_ble_eq_true rfl⟩
theorem RowFit.sei : RowFit.Statement .sei := ⟨rfl, rfl, rfl, Nat.le_of_ble_eq_true rfl, Nat.le_of_ble_eq_true rfl⟩
theorem RowFit.adcAby (w : Addr) : RowFit.Statement (.adcAby w) := ⟨rfl, rfl, rfl, Nat.le_of_ble_eq_true rfl, Nat.le_of_ble_eq_true rfl⟩
theorem RowFit.nop7A : RowFit.Statement .nop7A := ⟨rfl, rfl, rfl, Nat.le_of_ble_eq_true rfl, Nat.le_of_ble_eq_true rfl⟩
theorem RowFit.rraAby (w : Addr) : RowFit.Statement (.rraAby w) := ⟨rfl, rfl, rfl, Nat.le_of_ble_eq_true rfl, Nat.le_of_ble_eq_true rfl⟩
theorem RowFit.nopAbx7C (w : Addr) : RowFit.Statement (.nopAbx7C w) := ⟨rfl, rfl, rfl, Nat.le_of_ble_eq_true rfl, Nat.le_of_ble_eq_true rfl⟩
theorem RowFit.adcAbx (w : Addr) : RowFit.Statement (.adcAbx w) := ⟨rfl, rfl, rfl, Nat.le_of_ble_eq_true rfl, Nat.le_of_ble_eq_true rfl⟩
theorem RowFit.rorAbx (w : Addr) : RowFit.Statement (.rorAbx w) := ⟨rfl, rfl, rfl, Nat.le_of_ble_eq_true rfl, Nat.le_of_ble_eq_true rfl⟩
theorem RowFit.rraAbx (w : Addr) : RowFit.Statement (.rraAbx w) := ⟨rfl, rfl, rfl, Nat.le_of_ble_eq_true rfl, Nat.le_of_ble_eq_true rfl⟩
theorem RowFit.nopImm80 (d : Byte) : RowFit.Statement (.nopImm80 d) := ⟨rfl, rfl, rfl, Nat.le_of_ble_eq_true rfl, Nat.le_of_ble_eq_true rfl⟩
theorem RowFit.staIzx (d : Byte) : RowFit.Statement (.staIzx d) := ⟨rfl, rfl, rfl, Nat.le_of_ble_eq_true rfl, Nat.le_of_ble_eq_true rfl⟩
theorem RowFit.nopImm82 (d : Byte) : RowFit.Statement (.nopImm82 d) := ⟨rfl, rfl, rfl, Nat.le_of_ble_eq_true rfl, Nat.le_of_ble_eq_true rfl⟩
theorem RowFit.saxIzx (d : Byte) : RowFit.Statement (.saxIzx d) := ⟨rfl, rfl, rfl, Nat.le_of_ble_eq_true rfl, Nat.le_of_ble_eq_true rfl⟩
theorem RowFit.styZp (d : Byte) : RowFit.Statement (.styZp d) := ⟨rfl, rfl, rfl, Nat.le_of_ble_eq_true rfl, Nat.le_of_ble_eq_true rfl⟩
theorem RowFit.staZp (d : Byte) : RowFit.Statement (.staZp d) := ⟨rfl, rfl, rfl, Nat.le_of_ble_eq_true rfl, Nat.le_of_ble_eq_true rfl⟩
theorem RowFit.stxZp (d : Byte) : RowFit.Statement (.stxZp d) := ⟨rfl, rfl, rfl, Nat.le_of_ble_eq_true rfl, Nat.le_of_ble_eq_true rfl⟩
theorem RowFit.saxZp (d : Byte) : RowFit.Statement (.saxZp d) := ⟨rfl, rfl, rfl, Nat.le_of_ble_eq_true rfl, Nat.le_of_ble_eq_true rfl⟩
theorem RowFit.dey : RowFit.Statement .dey := ⟨rfl, rfl, rfl, Nat.le_of_ble_eq_true rfl, Nat.le_of_ble_eq_true rfl⟩
theorem RowFit.nopImm89 (d : Byte) : RowFit.Statement (.nopImm89 d) := ⟨rfl, rfl, rfl, Nat.le_of_ble_eq_true rfl, Nat.le_of_ble_eq_true rfl⟩
theorem RowFit.txa : RowFit.Statement .txa := ⟨rfl, rfl, rfl, Nat.le_of_ble_eq_true rfl, Nat.le_of_ble_eq_true rfl⟩
theorem RowFit.aneImm (d : Byte) : RowFit.Statement (.aneImm d) := ⟨rfl, rfl, rfl, Nat.le_of_ble_eq_true rfl, Nat.le_of_ble_eq_true rfl⟩
theorem RowFit.styAbs (w : Addr) : RowFit.Statement (.styAbs w) := ⟨rfl, rfl, rfl, Nat.le_of_ble_eq_true rfl, Nat.le_of_ble_eq_true rfl⟩
theorem RowFit.staAbs (w : Addr) : RowFit.Statement (.staAbs w) := ⟨rfl, rfl, rfl, Nat.le_of_ble_eq_true rfl, Nat.le_of_ble_eq_true rfl⟩
theorem RowFit.stxAbs (w : Addr) : RowFit.Statement (.stxAbs w) := ⟨rfl, rfl, rfl, Nat.le_of_ble_eq_true rfl, Nat.le_of_ble_eq_true rfl⟩
theorem RowFit.saxAbs (w : Addr) : RowFit.Statement (.saxAbs w) := ⟨rfl, rfl, rfl, Nat.le_of_ble_eq_true rfl, Nat.le_of_ble_eq_true rfl⟩
theorem RowFit.bcc (d : Byte) : RowFit.Statement (.bcc d) := ⟨rfl, rfl, rfl, Nat.le_of_ble_eq_true rfl, Nat.le_of_ble_eq_true rfl⟩
theorem RowFit.staIzy (d : Byte) : RowFit.Statement (.staIzy d) := ⟨rfl, rfl, rfl, Nat.le_of_ble_eq_true rfl, Nat.le_of_ble_eq_true rfl⟩
theorem RowFit.jam92 : RowFit.Statement .jam92 := ⟨rfl, rfl, rfl, Nat.le_of_ble_eq_true rfl, Nat.le_of_ble_eq_true rfl⟩
theorem RowFit.shaIzy (d : Byte) : RowFit.Statement (.shaIzy d) := ⟨rfl, rfl, rfl, Nat.le_of_ble_eq_true rfl, Nat.le_of_ble_eq_true rfl⟩
theorem RowFit.styZpx (d : Byte) : RowFit.Statement (.styZpx d) := ⟨rfl, rfl, rfl, Nat.le_of_ble_eq_true rfl, Nat.le_of_ble_eq_true rfl⟩
theorem RowFit.staZpx (d : Byte) : RowFit.Statement (.staZpx d) := ⟨rfl, rfl, rfl, Nat.le_of_ble_eq_true rfl, Nat.le_of_ble_eq_true rfl⟩
theorem RowFit.stxZpy (d : Byte) : RowFit.Statement (.stxZpy d) := ⟨rfl, rfl, rfl, Nat.le_of_ble_eq_true rfl, Nat.le_of_ble_eq_true rfl⟩
theorem RowFit.saxZpy (d : Byte) : RowFit.Statement (.saxZpy d) := ⟨rfl, rfl, rfl, Nat.le_of_ble_eq_true rfl, Nat.le_of_ble_eq_true rfl⟩
theorem RowFit.tya : RowFit.Statement .tya := ⟨rfl, rfl, rfl, Nat.le_of_ble_eq_true rfl, Nat.le_of_ble_eq_true rfl⟩
theorem RowFit.staAby (w : Addr) : RowFit.Statement (.staAby w) := ⟨rfl, rfl, rfl, Nat.le_of_ble_eq_true rfl, Nat.le_of_ble_eq_true rfl⟩
theorem RowFit.txs : RowFit.Statement .txs := ⟨rfl, rfl, rfl, Nat.le_of_ble_eq_true rfl, Nat.le_of_ble_eq_true rfl⟩
theorem RowFit.tasAby (w : Addr) : RowFit.Statement (.tasAby w) := ⟨rfl, rfl, rfl, Nat.le_of_ble_eq_true rfl, Nat.le_of_ble_eq_true rfl⟩
theorem RowFit.shyAbx (w : Addr) : RowFit.Statement (.shyAbx w) := ⟨rfl, rfl, rfl, Nat.le_of_ble_eq_true rfl, Nat.le_of_ble_eq_true rfl⟩
theorem RowFit.staAbx (w : Addr) : RowFit.Statement (.staAbx w) := ⟨rfl, rfl, rfl, Nat.le_of_ble_eq_true rfl, Nat.le_of_ble_eq_true rfl⟩
theorem RowFit.shxAby (w : Addr) : RowFit.Statement (.shxAby w) := ⟨rfl, rfl, rfl, Nat.le_of_ble_eq_true rfl, Nat.le_of_ble_eq_true rfl⟩
theorem RowFit.shaAby (w : Addr) : RowFit.Statement (.shaAby w) := ⟨rfl, rfl, rfl, Nat.le_of_ble_eq_true rfl, Nat.le_of_ble_eq_true rfl⟩
theorem RowFit.ldyImm (d : Byte) : RowFit.Statement (.ldyImm d) := ⟨rfl, rfl, rfl, Nat.le_of_ble_eq_true rfl, Nat.le_of_ble_eq_true rfl⟩
theorem RowFit.ldaIzx (d : Byte) : RowFit.Statement (.ldaIzx d) := ⟨rfl, rfl, rfl, Nat.le_of_ble_eq_true rfl, Nat.le_of_ble_eq_true rfl⟩
theorem RowFit.ldxImm (d : Byte) : RowFit.Statement (.ldxImm d) := ⟨rfl, rfl, rfl, Nat.le_of_ble_eq_true rfl, Nat.le_of_ble_eq_true rfl⟩
theorem RowFit.laxIzx (d : Byte) : RowFit.Statement (.laxIzx d) := ⟨rfl, rfl, rfl, Nat.le_of_ble_eq_true rfl, Nat.le_of_ble_eq_true rfl⟩
theorem RowFit.ldyZp (d : Byte) : RowFit.Statement (.ldyZp d) := ⟨rfl, rfl, rfl, Nat.le_of_ble_eq_true rfl, Nat.le_of_ble_eq_true rfl⟩
theorem RowFit.ldaZp (d : Byte) : RowFit.Statement (.ldaZp d) := ⟨rfl, rfl, rfl, Nat.le_of_ble_eq_true rfl, Nat.le_of_ble_eq_true rfl⟩
theorem RowFit.ldxZp (d : Byte) : RowFit.Statement (.ldxZp d) := ⟨rfl, rfl, rfl, Nat.le_of_ble_eq_true rfl, Nat.le_of_ble_eq_true rfl⟩
theorem RowFit.laxZp (d : Byte) : RowFit.Statement (.laxZp d) := ⟨rfl, rfl, rfl, Nat.le_of_ble_eq_true rfl, Nat.le_of_ble_eq_true rfl⟩
theorem RowFit.tay : RowFit.Statement .tay := ⟨rfl, rfl, rfl, Nat.le_of_ble_eq_true rfl, Nat.le_of_ble_eq_true rfl⟩
theorem RowFit.ldaImm (d : Byte) : RowFit.Statement (.ldaImm d) := ⟨rfl, rfl, rfl, Nat.le_of_ble_eq_true rfl, Nat.le_of_ble_eq_true rfl⟩
theorem RowFit.tax : RowFit.Statement .tax := ⟨rfl, rfl, rfl, Nat.le_of_ble_eq_true rfl, Nat.le_of_ble_eq_true rfl⟩
theorem RowFit.lxaImm (d : Byte) : RowFit.Statement (.lxaImm d) := ⟨rfl, rfl, rfl, Nat.le_of_ble_eq_true rfl, Nat.le_of_ble_eq_true rfl⟩
theorem RowFit.ldyAbs (w : Addr) : RowFit.Statement (.ldyAbs w) := ⟨rfl, rfl, rfl, Nat.le_of_ble_eq_true rfl, Nat.le_of_ble_eq_true rfl⟩
theorem RowFit.ldaAbs (w : Addr) : RowFit.Statement (.ldaAbs w) := ⟨rfl, rfl, rfl, Nat.le_of_ble_eq_true rfl, Nat.le_of_ble_eq_true rfl⟩
theorem RowFit.ldxAbs (w : Addr) : RowFit.Statement (.ldxAbs w) := ⟨rfl, rfl, rfl, Nat.le_of_ble_eq_true rfl, Nat.le_of_ble_eq_true rfl⟩
theorem RowFit.laxAbs (w : Addr) : RowFit.Statement (.laxAbs w) := ⟨rfl, rfl, rfl, Nat.le_of_ble_eq_true rfl, Nat.le_of_ble_eq_true rfl⟩
theorem RowFit.bcs (d : Byte) : RowFit.Statement (.bcs d) := ⟨rfl, rfl, rfl, Nat.le_of_ble_eq_true rfl, Nat.le_of_ble_eq_true rfl⟩
theorem RowFit.ldaIzy (d : Byte) : RowFit.Statement (.ldaIzy d) := ⟨rfl, rfl, rfl, Nat.le_of_ble_eq_true rfl, Nat.le_of_ble_eq_true rfl⟩
theorem RowFit.jamB2 : RowFit.Statement .jamB2 := ⟨rfl, rfl, rfl, Nat.le_of_ble_eq_true rfl, Nat.le_of_ble_eq_true rfl⟩
theorem RowFit.laxIzy (d : Byte) : RowFit.Statement (.laxIzy d) := ⟨rfl, rfl, rfl, Nat.le_of_ble_eq_true rfl, Nat.le_of_ble_eq_true rfl⟩
theorem RowFit.ldyZpx (d : Byte) : RowFit.Statement (.ldyZpx d) := ⟨rfl, rfl, rfl, Nat.le_of_ble_eq_true rfl, Nat.le_of_ble_eq_true rfl⟩
theorem RowFit.ldaZpx (d : Byte) : RowFit.Statement (.ldaZpx d) := ⟨rfl, rfl, rfl, Nat.le_of_ble_eq_true rfl, Nat.le_of_ble_eq_true rfl⟩
theorem RowFit.ldxZpy (d : Byte) : RowFit.Statement (.ldxZpy d) := ⟨rfl, rfl, rfl, Nat.le_of_ble_eq_true rfl, Nat.le_of_ble_eq_true rfl⟩
theorem RowFit.laxZpy (d : Byte) : RowFit.Statement (.laxZpy d) := ⟨rfl, rfl, rfl, Nat.le_of_ble_eq_true rfl, Nat.le_of_ble_eq_true rfl⟩
theorem RowFit.clv : RowFit.Statement .clv := ⟨rfl, rfl, rfl, Nat.le_of_ble_eq_true rfl, Nat.le_of_ble_eq_true rfl⟩
theorem RowFit.ldaAby (w : Addr) : RowFit.Statement (.ldaAby w) := ⟨rfl, rfl, rfl, Nat.le_of_ble_eq_true rfl, Nat.le_of_ble_eq_true rfl⟩
theorem RowFit.tsx : RowFit.Statement .tsx := ⟨rfl, rfl, rfl, Nat.le_of_ble_eq_true rfl, Nat.le_of_ble_eq_true rfl⟩
theorem RowFit.lasAby (w : Addr) : RowFit.Statement (.lasAby w) := ⟨rfl, rfl, rfl, Nat.le_of_ble_eq_true rfl, Nat.le_of_ble_eq_true rfl⟩
theorem RowFit.ldyAbx (w : Addr) : RowFit.Statement (.ldyAbx w) := ⟨rfl, rfl, rfl, Nat.le_of_ble_eq_true rfl, Nat.le_of_ble_eq_true rfl⟩
theorem RowFit.ldaAbx (w : Addr) : RowFit.Statement (.ldaAbx w) := ⟨rfl, rfl, rfl, Nat.le_of_ble_eq_true rfl, Nat.le_of_ble_eq_true rfl⟩
theorem RowFit.ldxAby (w : Addr) : RowFit.Statement (.ldxAby w) := ⟨rfl, rfl, rfl, Nat.le_of_ble_eq_true rfl, Nat.le_of_ble_eq_true rfl⟩
theorem RowFit.laxAby (w : Addr) : RowFit.Statement (.laxAby w) := ⟨rfl, rfl, rfl, Nat.le_of_ble_eq_true rfl, Nat.le_of_ble_eq_true rfl⟩
theorem RowFit.cpyImm (d : Byte) : RowFit.Statement (.cpyImm d) := ⟨rfl, rfl, rfl, Nat.le_of_ble_eq_true rfl, Nat.le_of_ble_eq_true rfl⟩
theorem RowFit.cmpIzx (d : Byte) : RowFit.Statement (.cmpIzx d) := ⟨rfl, rfl, rfl, Nat.le_of_ble_eq_true rfl, Nat.le_of_ble_eq_true rfl⟩
theorem RowFit.nopImmC2 (d : Byte) : RowFit.Statement (.nopImmC2 d) := ⟨rfl, rfl, rfl, Nat.le_of_ble_eq_true rfl, Nat.le_of_ble_eq_true rfl⟩
theorem RowFit.dcpIzx (d : Byte) : RowFit.Statement (.dcpIzx d) := ⟨rfl, rfl, rfl, Nat.le_of_ble_eq_true rfl, Nat.le_of_ble_eq_true rfl⟩
theorem RowFit.cpyZp (d : Byte) : RowFit.Statement (.cpyZp d) := ⟨rfl, rfl, rfl, Nat.le_of_ble_eq_true rfl, Nat.le_of_ble_eq_true rfl⟩
theorem RowFit.cmpZp (d : Byte) : RowFit.Statement (.cmpZp d) := ⟨rfl, rfl, rfl, Nat.le_of_ble_eq_true rfl, Nat.le_of_ble_eq_true rfl⟩
theorem RowFit.decZp (d : Byte) : RowFit.Statement (.decZp d) := ⟨rfl, rfl, rfl, Nat.le_of_ble_eq_true rfl, Nat.le_of_ble_eq_true rfl⟩
theorem RowFit.dcpZp (d : Byte) : RowFit.Statement (.dcpZp d) := ⟨rfl, rfl, rfl, Nat.le_of_ble_eq_true rfl, Nat.le_of_ble_eq_true rfl⟩
theorem RowFit.iny : RowFit.Statement .iny := ⟨rfl, rfl, rfl, Nat.le_of_ble_eq_true rfl, Nat.le_of_ble_eq_true rfl⟩
theorem RowFit.cmpImm (d : Byte) : RowFit.Statement (.cmpImm d) := ⟨rfl, rfl, rfl, Nat.le_of_ble_eq_true rfl, Nat.le_of_ble_eq_true rfl⟩
theorem RowFit.dex : RowFit.Statement .dex := ⟨rfl, rfl, rfl, Nat.le_of_ble_eq_true rfl, Nat.le_of_ble_eq_true rfl⟩
theorem RowFit.sbxImm (d : Byte) : RowFit.Statement (.sbxImm d) := ⟨rfl, rfl, rfl, Nat.le_of_ble_eq_true rfl, Nat.le_of_ble_eq_true rfl⟩
theorem RowFit.cpyAbs (w : Addr) : RowFit.Statement (.cpyAbs w) := ⟨rfl, rfl, rfl, Nat.le_of_ble_eq_true rfl, Nat.le_of_ble_eq_true rfl⟩
theorem RowFit.cmpAbs (w : Addr) : RowFit.Statement (.cmpAbs w) := ⟨rfl, rfl, rfl, Nat.le_of_ble_eq_true rfl, Nat.le_of_ble_eq_true rfl⟩
theorem RowFit.decAbs (w : Addr) : RowFit.Statement (.decAbs w) := ⟨rfl, rfl, rfl, Nat.le_of_ble_eq_true rfl, Nat.le_of_ble_eq_true rfl⟩
theorem RowFit.dcpAbs (w : Addr) : RowFit.Statement (.dcpAbs w) := ⟨rfl, rfl, rfl, Nat.le_of_ble_eq_true rfl, Nat.le_of_ble_eq_true rfl⟩
theorem RowFit.bne (d : Byte) : RowFit.Statement (.bne d) := ⟨rfl, rfl, rfl, Nat.le_of_ble_eq_true rfl, Nat.le_of_ble_eq_true rfl⟩
theorem RowFit.cmpIzy (d : Byte) : RowFit.Statement (.cmpIzy d) := ⟨rfl, rfl, rfl, Nat.le_of_ble_eq_true rfl, Nat.le_of_ble_eq_true rfl⟩
theorem RowFit.jamD2 : RowFit.Statement .jamD2 := ⟨rfl, rfl, rfl, Nat.le_of_ble_eq_true rfl, Nat.le_of_ble_eq_true rfl⟩
theorem RowFit.dcpIzy (d : Byte) : RowFit.Statement (.dcpIzy d) := ⟨rfl, rfl, rfl, Nat.le_of_ble_eq_true rfl, Nat.le_of_ble_eq_true rfl⟩
theorem RowFit.nopZpxD4 (d : Byte) : RowFit.Statement (.nopZpxD4 d) := ⟨rfl, rfl, rfl, Nat.le_of_ble_eq_true rfl, Nat.le_of_ble_eq_true rfl⟩
theorem RowFit.cmpZpx (d : Byte) : RowFit.Statement (.cmpZpx d) := ⟨rfl, rfl, rfl, Nat.le_of_ble_eq_true rfl, Nat.le_of_ble_eq_true rfl⟩
theorem RowFit.decZpx (d : Byte) : RowFit.Statement (.decZpx d) := ⟨rfl, rfl, rfl, Nat.le_of_ble_eq_true rfl, Nat.le_of_ble_eq_true rfl⟩
theorem RowFit.dcpZpx (d : Byte) : RowFit.Statement (.dcpZpx d) := ⟨rfl, rfl, rfl, Nat.le_of_ble_eq_true rfl, Nat.le_of_ble_eq_true rfl⟩
theorem RowFit.cld : RowFit.Statement .cld := ⟨rfl, rfl, rfl, Nat.le_of_ble_eq_true rfl, Nat.le_of_ble_eq_true rfl⟩
theorem RowFit.cmpAby (w : Addr) : RowFit.Statement (.cmpAby w) := ⟨rfl, rfl, rfl, Nat.le_of_ble_eq_true rfl, Nat.le_of_ble_eq_true rfl⟩
theorem RowFit.nopDA : RowFit.Statement .nopDA := ⟨rfl, rfl, rfl, Nat.le_of_ble_eq_true rfl, Nat.le_of_ble_eq_true rfl⟩
theorem RowFit.dcpAby (w : Addr) : RowFit.Statement (.dcpAby w) := ⟨rfl, rfl, rfl, Nat.le_of_ble_eq_true rfl, Nat.le_of_ble_eq_true rfl⟩
theorem RowFit.nopAbxDC (w : Addr) : RowFit.Statement (.nopAbxDC w) := ⟨rfl, rfl, rfl, Nat.le_of_ble_eq_true rfl, Nat.le_of_ble_eq_true rfl⟩
theorem RowFit.cmpAbx (w : Addr) : RowFit.Statement (.cmpAbx w) := ⟨rfl, rfl, rfl, Nat.le_of_ble_eq_true rfl, Nat.le_of_ble_eq_true rfl⟩
theorem RowFit.decAbx (w : Addr) : RowFit.Statement (.decAbx w) := ⟨rfl, rfl, rfl, Nat.le_of_ble_eq_true rfl, Nat.le_of_ble_eq_true rfl⟩
theorem RowFit.dcpAbx (w : Addr) : RowFit.Statement (.dcpAbx w) := ⟨rfl, rfl, rfl, Nat.le_of_ble_eq_true rfl, Nat.le_of_ble_eq_true rfl⟩
theorem RowFit.cpxImm (d : Byte) : RowFit.Statement (.cpxImm d) := ⟨rfl, rfl, rfl, Nat.le_of_ble_eq_true rfl, Nat.le_of_ble_eq_true rfl⟩
theorem RowFit.sbcIzx (d : Byte) : RowFit.Statement (.sbcIzx d) := ⟨rfl, rfl, rfl, Nat.le_of_ble_eq_true rfl, Nat.le_of_ble_eq_true rfl⟩
theorem RowFit.nopImmE2 (d : Byte) : RowFit.Statement (.nopImmE2 d) := ⟨rfl, rfl, rfl, Nat.le_of_ble_eq_true rfl, Nat.le_of_ble_eq_true rfl⟩
theorem RowFit.iscIzx (d : Byte) : RowFit.Statement (.iscIzx d) := ⟨rfl, rfl, rfl, Nat.le_of_ble_eq_true rfl, Nat.le_of_ble_eq_true rfl⟩
theorem RowFit.cpxZp (d : Byte) : RowFit.Statement (.cpxZp d) := ⟨rfl, rfl, rfl, Nat.le_of_ble_eq_true rfl, Nat.le_of_ble_eq_true rfl⟩
theorem RowFit.sbcZp (d : Byte) : RowFit.Statement (.sbcZp d) := ⟨rfl, rfl, rfl, Nat.le_of_ble_eq_true rfl, Nat.le_of_ble_eq_true rfl⟩
theorem RowFit.incZp (d : Byte) : RowFit.Statement (.incZp d) := ⟨rfl, rfl, rfl, Nat.le_of_ble_eq_true rfl, Nat.le_of_ble_eq_true rfl⟩
theorem RowFit.iscZp (d : Byte) : RowFit.Statement (.iscZp d) := ⟨rfl, rfl, rfl, Nat.le_of_ble_eq_true rfl, Nat.le_of_ble_eq_true rfl⟩
theorem RowFit.inx : RowFit.Statement .inx := ⟨rfl, rfl, rfl, Nat.le_of_ble_eq_true rfl, Nat.le_of_ble_eq_true rfl⟩
theorem RowFit.sbcImm (d : Byte) : RowFit.Statement (.sbcImm d) := ⟨rfl, rfl, rfl, Nat.le_of_ble_eq_true rfl, Nat.le_of_ble_eq_true rfl⟩
theorem RowFit.nop : RowFit.Statement .nop := ⟨rfl, rfl, rfl, Nat.le_of_ble_eq_true rfl, Nat.le_of_ble_eq_true rfl⟩
theorem RowFit.usbcImm (d : Byte) : RowFit.Statement (.usbcImm d) := ⟨rfl, rfl, rfl, Nat.le_of_ble_eq_true rfl, Nat.le_of_ble_eq_true rfl⟩
theorem RowFit.cpxAbs (w : Addr) : RowFit.Statement (.cpxAbs w) := ⟨rfl, rfl, rfl, Nat.le_of_ble_eq_true rfl, Nat.le_of_ble_eq_true rfl⟩
theorem RowFit.sbcAbs (w : Addr) : RowFit.Statement (.sbcAbs w) := ⟨rfl, rfl, rfl, Nat.le_of_ble_eq_true rfl, Nat.le_of_ble_eq_true rfl⟩
theorem RowFit.incAbs (w : Addr) : RowFit.Statement (.incAbs w) := ⟨rfl, rfl, rfl, Nat.le_of_ble_eq_true rfl, Nat.le_of_ble_eq_true rfl⟩
theorem RowFit.iscAbs (w : Addr) : RowFit.Statement (.iscAbs w) := ⟨rfl, rfl, rfl, Nat.le_of_ble_eq_true rfl, Nat.le_of_ble_eq_true rfl⟩
theorem RowFit.beq (d : Byte) : RowFit.Statement (.beq d) := ⟨rfl, rfl, rfl, Nat.le_of_ble_eq_true rfl, Nat.le_of_ble_eq_true rfl⟩
theorem RowFit.sbcIzy (d : Byte) : RowFit.Statement (.sbcIzy d) := ⟨rfl, rfl, rfl, Nat.le_of_ble_eq_true rfl, Nat.le_of_ble_eq_true rfl⟩
theorem RowFit.jamF2 : RowFit.Statement .jamF2 := ⟨rfl, rfl, rfl, Nat.le_of_ble_eq_true rfl, Nat.le_of_ble_eq_true rfl⟩
theorem RowFit.iscIzy (d : Byte) : RowFit.Statement (.iscIzy d) := ⟨rfl, rfl, rfl, Nat.le_of_ble_eq_true rfl, Nat.le_of_ble_eq_true rfl⟩
theorem RowFit.nopZpxF4 (d : Byte) : RowFit.Statement (.nopZpxF4 d) := ⟨rfl, rfl, rfl, Nat.le_of_ble_eq_true rfl, Nat.le_of_ble_eq_true rfl⟩
theorem RowFit.sbcZpx (d : Byte) : RowFit.Statement (.sbcZpx d) := ⟨rfl, rfl, rfl, Nat.le_of_ble_eq_true rfl, Nat.le_of_ble_eq_true rfl⟩
theorem RowFit.incZpx (d : Byte) : RowFit.Statement (.incZpx d) := ⟨rfl, rfl, rfl, Nat.le_of_ble_eq_true rfl, Nat.le_of_ble_eq_true rfl⟩
theorem RowFit.iscZpx (d : Byte) : RowFit.Statement (.iscZpx d) := ⟨rfl, rfl, rfl, Nat.le_of_ble_eq_true rfl, Nat.le_of_ble_eq_true rfl⟩
theorem RowFit.sed : RowFit.Statement .sed := ⟨rfl, rfl, rfl, Nat.le_of_ble_eq_true rfl, Nat.le_of_ble_eq_true rfl⟩
theorem RowFit.sbcAby (w : Addr) : RowFit.Statement (.sbcAby w) := ⟨rfl, rfl, rfl, Nat.le_of_ble_eq_true rfl, Nat.le_of_ble_eq_true rfl⟩
theorem RowFit.nopFA : RowFit.Statement .nopFA := ⟨rfl, rfl, rfl, Nat.le_of_ble_eq_true rfl, Nat.le_of_ble_eq_true rfl⟩
theorem RowFit.iscAby (w : Addr) : RowFit.Statement (.iscAby w) := ⟨rfl, rfl, rfl, Nat.le_of_ble_eq_true rfl, Nat.le_of_ble_eq_true rfl⟩
theorem RowFit.nopAbxFC (w : Addr) : RowFit.Statement (.nopAbxFC w) := ⟨rfl, rfl, rfl, Nat.le_of_ble_eq_true rfl, Nat.le_of_ble_eq_true rfl⟩
theorem RowFit.sbcAbx (w : Addr) : RowFit.Statement (.sbcAbx w) := ⟨rfl, rfl, rfl, Nat.le_of_ble_eq_true rfl, Nat.le_of_ble_eq_true rfl⟩
theorem RowFit.incAbx (w : Addr) : RowFit.Statement (.incAbx w) := ⟨rfl, rfl, rfl, Nat.le_of_ble_eq_true rfl, Nat.le_of_ble_eq_true rfl⟩
theorem RowFit.iscAbx (w : Addr) : RowFit.Statement (.iscAbx w) := ⟨rfl, rfl, rfl, Nat.le_of_ble_eq_true rfl, Nat.le_of_ble_eq_true rfl⟩

end Sys2Proof.Laws
end

