-- ==== Sys2Proof/Laws/Perform.lean ====
section
/-! SUPPORT. The one lemma that takes `exec` apart: what an instruction does is what its mnemonic's shared operation does
with its row and its operand. Every statement about a mnemonic starts here, with no case split over `Instr`. -/

namespace Sys2Proof.Machine

/-- What a mnemonic does with a row and an operand (R74: the row's mnemonic is the operation kind). -/
def perform (m : Mnemonic) (r : Row) (op : Operand) (s : State) : Out :=
  match m with
  | .BRK => doBrk r op s
  | .ORA => doOra r op s
  | .JAM => doJam r op s
  | .SLO => doSlo r op s
  | .NOP => doNop r op s
  | .ASL => doAsl r op s
  | .PHP => doPhp r op s
  | .ANC => doAnc r op s
  | .BPL => doBpl r op s
  | .CLC => doClc r op s
  | .JSR => doJsr r op s
  | .AND => doAnd r op s
  | .RLA => doRla r op s
  | .BIT => doBit r op s
  | .ROL => doRol r op s
  | .PLP => doPlp r op s
  | .BMI => doBmi r op s
  | .SEC => doSec r op s
  | .RTI => doRti r op s
  | .EOR => doEor r op s
  | .SRE => doSre r op s
  | .LSR => doLsr r op s
  | .PHA => doPha r op s
  | .ALR => doAlr r op s
  | .JMP => doJmp r op s
  | .BVC => doBvc r op s
  | .CLI => doCli r op s
  | .RTS => doRts r op s
  | .ADC => doAdc r op s
  | .RRA => doRra r op s
  | .ROR => doRor r op s
  | .PLA => doPla r op s
  | .ARR => doArr r op s
  | .BVS => doBvs r op s
  | .SEI => doSei r op s
  | .STA => doSta r op s
  | .SAX => doSax r op s
  | .STY => doSty r op s
  | .STX => doStx r op s
  | .DEY => doDey r op s
  | .TXA => doTxa r op s
  | .ANE => doAne r op s
  | .BCC => doBcc r op s
  | .SHA => doSha r op s
  | .TYA => doTya r op s
  | .TXS => doTxs r op s
  | .TAS => doTas r op s
  | .SHY => doShy r op s
  | .SHX => doShx r op s
  | .LDY => doLdy r op s
  | .LDA => doLda r op s
  | .LDX => doLdx r op s
  | .LAX => doLax r op s
  | .TAY => doTay r op s
  | .TAX => doTax r op s
  | .LXA => doLxa r op s
  | .BCS => doBcs r op s
  | .CLV => doClv r op s
  | .TSX => doTsx r op s
  | .LAS => doLas r op s
  | .CPY => doCpy r op s
  | .CMP => doCmp r op s
  | .DCP => doDcp r op s
  | .DEC => doDec r op s
  | .INY => doIny r op s
  | .DEX => doDex r op s
  | .SBX => doSbx r op s
  | .BNE => doBne r op s
  | .CLD => doCld r op s
  | .CPX => doCpx r op s
  | .SBC => doSbc r op s
  | .ISC => doIsc r op s
  | .INC => doInc r op s
  | .INX => doInx r op s
  | .USBC => doUsbc r op s
  | .BEQ => doBeq r op s
  | .SED => doSed r op s

/-- Each of the 256 arms of `exec` is its mnemonic's shared operation on its own row and operand. -/
theorem exec_eq_perform (i : Instr) (s : State) : exec i s = perform i.mnemonic i.row i.operand s := by
  cases i <;> rfl

/-- What an instruction of a given mnemonic does. -/
theorem exec_of_mnemonic {i : Instr} {m : Mnemonic} (h : i.mnemonic = m) (s : State) :
    exec i s = perform m i.row i.operand s := by
  rw [exec_eq_perform, h]

end Sys2Proof.Machine
end

