-- ==== Sys2Proof/Laws/Step.lean ====
section
/-! SUPPORT. The step and a run of steps (R84): what a step is, and how a run begins. -/

namespace Sys2Proof.Machine

/-- A step is the fetched instruction on the state with `lastPC` recorded. -/
theorem step_eq (s : State) : step s = exec s.fetch { s with lastPC := s.pc } := rfl

/-- A fetch looks at three bytes and at nothing else. -/
theorem fetch_congr {s t : State} (hp : s.pc = t.pc) (hm : s.mem = t.mem) : s.fetch = t.fetch := by
  simp only [State.fetch, hp, State.read_congr hm]

/-- A run of one step more takes that step first, on any core. -/
theorem run_succ {M : Host.Core} {k : Nat} {s t : M.State} (h : M.step s = .next t) : M.run (k + 1) s = M.run k t := by
  rw [Host.Core.run, h]

/-- A run of one step more takes that step first, on this machine. -/
theorem core_run_succ {k : Nat} {s t : State} (h : step s = .next t) :
    Host.Core.run Sys2Proof.core (k + 1) s = Host.Core.run Sys2Proof.core k t :=
  run_succ (M := Sys2Proof.core) h

/-- Placing a table word at PC changes nothing but memory, and keeps its canonical form. -/
theorem State.withFetchWord_eq (s : State) (nbits w : Nat) :
    s.withFetchWord nbits w = { s with mem := (s.withFetchWord nbits w).mem } :=
  State.writeBytes_eq (tableBytes nbits w) s s.pc

theorem State.withFetchWord_wf {s : State} (h : s.mem.wf = true) (nbits w : Nat) :
    (s.withFetchWord nbits w).mem.wf = true :=
  State.writeBytes_wf (tableBytes nbits w) s s.pc h

end Sys2Proof.Machine
end

