-- ==== Sys2Proof/Laws/Table.lean ====
section
/-! SUPPORT. From an instruction to the opcode map: its row stands in the map, its operand has the row's mode. A fact about
all instructions that speaks of rows and modes only is then one `decide` over the 256 rows (R71, R74, R75). -/

namespace Sys2Proof

set_option maxRecDepth 20000 in
/-- The map has 256 rows. -/
theorem opcodeMap_length : opcodeMap.length = 256 := rfl

/-- The row of a byte stands in the map. -/
theorem opcodeRow_mem (b : Byte) : opcodeRow b ∈ opcodeMap := by
  have h : b.toNat < opcodeMap.length := by
    rw [opcodeMap_length]
    exact b.isLt
  rw [opcodeRow, List.getD_eq_getElem _ _ h]
  exact List.getElem_mem h

/-- The row of an instruction stands in the map. -/
theorem Instr.row_mem (i : Instr) : i.row ∈ opcodeMap := opcodeRow_mem i.opcode

/-- What holds of every row of the map holds of the row of every instruction. -/
theorem Instr.row_of_all {P : Row → Prop} (h : ∀ r ∈ opcodeMap, P r) (i : Instr) : P i.row := h i.row i.row_mem

/-- The operand of an instruction has the mode of its row (R71). -/
theorem Instr.mode_eq (i : Instr) : i.operand.mode = i.row.mode := by
  cases i <;> rfl

/-- The encoding of an instruction has the length of its mode (R70, R71). -/
theorem encode_length (i : Instr) : (encode i).length = i.operand.length := by
  rw [encode, List.length_cons]
  cases i.operand <;> rfl

end Sys2Proof
end

