-- ==== Sys2Proof/Tests/Slice0.lean ====
section
/-! SUPPORT. Tests: ill-formed encodings are refused, every constructor decodes from a word written out from the spec, one
step of each instruction on the spec's own vectors, and for every statement with hypotheses a state that meets them. -/

namespace Sys2Proof.Tests

open Sys2Proof.Machine Sys2Proof.Safety

/-! ## Well-formedness: an ill-formed term for each check -/

-- R71, R74: opcode A9 is LDA immediate, so a zero-page operand does not go with it.
theorem test_wrong_mode_refused : RawInstr.wellFormed ⟨0xA9, .zp 0x10⟩ = false := by decide
theorem test_right_mode_accepted : RawInstr.wellFormed ⟨0xA9, .imm 0x10⟩ = true := by decide
-- 0A is ASL in the accumulator form: an absolute operand does not go with it.
theorem test_accumulator_with_address_refused : RawInstr.wellFormed ⟨0x0A, .abs 0x1234⟩ = false := by decide
-- R70: no byte, a byte missing, a byte left over.
theorem test_no_byte_refused : wellFormedBytes [] = false := by decide
theorem test_missing_operand_refused : wellFormedBytes [0xA9] = false := by decide
theorem test_missing_high_byte_refused : wellFormedBytes [0xAD, 0x34] = false := by decide
theorem test_byte_left_over_refused : wellFormedBytes [0xEA, 0xEA] = false := by decide
theorem test_whole_instruction_accepted : wellFormedBytes [0xAD, 0x34, 0x12] = true := by decide
theorem test_refusals_by_name :
    decode [] = .error .noOpcode ∧ decode [0xA9] = .error .missingOperand ∧
      decode [0xAD, 0x34] = .error .missingOperand := ⟨rfl, rfl, rfl⟩

/-! ## The opcode map (30_encoding.md section 2) -/

-- The counts of R75 and R83: 151 documented, 105 not, the unstable stores at 93, 9B, 9C, 9E, 9F.
theorem test_map_counts :
    (opcodeMap.filter (·.documented)).length = 151 ∧ (opcodeMap.filter (fun r => !r.documented)).length = 105 := by
  decide +kernel
theorem test_unstable_stores :
    (opcodeMap.zipIdx.filterMap fun p => if p.1.unstableStore then some p.2 else none) =
      [0x93, 0x9B, 0x9C, 0x9E, 0x9F] := by decide +kernel

/-! ## Helpers -/

/-- The start state the vectors of 95_test_vectors.md section 2 share (a convention of the tables, no reset state). -/
def base : State := { State.reset with flagI := false, pc := 0x0600 }

/-- A state with cells set. -/
def withCells (s : State) : List (Addr × Byte) → State
  | [] => s
  | (a, v) :: rest => withCells (s.write a v) rest

/-- The state one step leaves, with the instruction's bytes at PC and cells set. -/
def after (s : State) (bytes : List Byte) (cells : List (Addr × Byte)) : State :=
  match step (withCells (s.seed s.pc bytes) cells) with
  | .next t => t
  | .fault _ => s
  | .refused _ => s

/-- The state an instruction leaves. -/
def done (i : Instr) (s : State) : State :=
  match exec i s with
  | .next t => t
  | .fault _ => s
  | .refused _ => s

/-! ## The host's two functions: a word numbered as the opcode table numbers it -/

-- AD 34 12: bit 0 is the least significant bit of the first byte.
theorem test_table_word : decodeTableWord 24 0x1234AD = some (.ldaAbs 0x1234) := by decide +kernel
-- A word with fewer bits than the instruction: the bytes above are zero.
theorem test_table_word_short : decodeTableWord 8 0xAD = some (.ldaAbs 0x0000) := by decide +kernel
-- The first instruction after reset, placed at PC, runs: LDA #$80.
theorem test_first_instruction :
    let s := State.reset.withFetchWord 16 0x80A9
    step s = .next { s with a := 0x80, flagN := true, pc := 0x0002, cycles := 2 } := rfl

/-! ## Decoding: one word of each constructor, written out from 30_encoding.md section 4 and the opcode tables: the opcode
byte, then `10`, or `34 12` (low byte first) -/

theorem test_decode_line_0 :
    decode [0x00] = .ok (.brk, []) ∧
    decode [0x01, 0x10] = .ok (.oraIzx 0x10, []) ∧
    decode [0x02] = .ok (.jam02, []) ∧
    decode [0x03, 0x10] = .ok (.sloIzx 0x10, []) ∧
    decode [0x04, 0x10] = .ok (.nopZp04 0x10, []) ∧
    decode [0x05, 0x10] = .ok (.oraZp 0x10, []) ∧
    decode [0x06, 0x10] = .ok (.aslZp 0x10, []) ∧
    decode [0x07, 0x10] = .ok (.sloZp 0x10, []) ∧
    decode [0x08] = .ok (.php, []) ∧
    decode [0x09, 0x10] = .ok (.oraImm 0x10, []) ∧
    decode [0x0A] = .ok (.aslAcc, []) ∧
    decode [0x0B, 0x10] = .ok (.ancImm0B 0x10, []) ∧
    decode [0x0C, 0x34, 0x12] = .ok (.nopAbs 0x1234, []) ∧
    decode [0x0D, 0x34, 0x12] = .ok (.oraAbs 0x1234, []) ∧
    decode [0x0E, 0x34, 0x12] = .ok (.aslAbs 0x1234, []) ∧
    decode [0x0F, 0x34, 0x12] = .ok (.sloAbs 0x1234, []) := by
  refine ⟨rfl, rfl, rfl, rfl, rfl, rfl, rfl, rfl, rfl, rfl, rfl, rfl, rfl, rfl, rfl, rfl⟩

theorem test_decode_line_1 :
    decode [0x10, 0x10] = .ok (.bpl 0x10, []) ∧
    decode [0x11, 0x10] = .ok (.oraIzy 0x10, []) ∧
    decode [0x12] = .ok (.jam12, []) ∧
    decode [0x13, 0x10] = .ok (.sloIzy 0x10, []) ∧
    decode [0x14, 0x10] = .ok (.nopZpx14 0x10, []) ∧
    decode [0x15, 0x10] = .ok (.oraZpx 0x10, []) ∧
    decode [0x16, 0x10] = .ok (.aslZpx 0x10, []) ∧
    decode [0x17, 0x10] = .ok (.sloZpx 0x10, []) ∧
    decode [0x18] = .ok (.clc, []) ∧
    decode [0x19, 0x34, 0x12] = .ok (.oraAby 0x1234, []) ∧
    decode [0x1A] = .ok (.nop1A, []) ∧
    decode [0x1B, 0x34, 0x12] = .ok (.sloAby 0x1234, []) ∧
    decode [0x1C, 0x34, 0x12] = .ok (.nopAbx1C 0x1234, []) ∧
    decode [0x1D, 0x34, 0x12] = .ok (.oraAbx 0x1234, []) ∧
    decode [0x1E, 0x34, 0x12] = .ok (.aslAbx 0x1234, []) ∧
    decode [0x1F, 0x34, 0x12] = .ok (.sloAbx 0x1234, []) := by
  refine ⟨rfl, rfl, rfl, rfl, rfl, rfl, rfl, rfl, rfl, rfl, rfl, rfl, rfl, rfl, rfl, rfl⟩

theorem test_decode_line_2 :
    decode [0x20, 0x34, 0x12] = .ok (.jsrAbs 0x1234, []) ∧
    decode [0x21, 0x10] = .ok (.andIzx 0x10, []) ∧
    decode [0x22] = .ok (.jam22, []) ∧
    decode [0x23, 0x10] = .ok (.rlaIzx 0x10, []) ∧
    decode [0x24, 0x10] = .ok (.bitZp 0x10, []) ∧
    decode [0x25, 0x10] = .ok (.andZp 0x10, []) ∧
    decode [0x26, 0x10] = .ok (.rolZp 0x10, []) ∧
    decode [0x27, 0x10] = .ok (.rlaZp 0x10, []) ∧
    decode [0x28] = .ok (.plp, []) ∧
    decode [0x29, 0x10] = .ok (.andImm 0x10, []) ∧
    decode [0x2A] = .ok (.rolAcc, []) ∧
    decode [0x2B, 0x10] = .ok (.ancImm2B 0x10, []) ∧
    decode [0x2C, 0x34, 0x12] = .ok (.bitAbs 0x1234, []) ∧
    decode [0x2D, 0x34, 0x12] = .ok (.andAbs 0x1234, []) ∧
    decode [0x2E, 0x34, 0x12] = .ok (.rolAbs 0x1234, []) ∧
    decode [0x2F, 0x34, 0x12] = .ok (.rlaAbs 0x1234, []) := by
  refine ⟨rfl, rfl, rfl, rfl, rfl, rfl, rfl, rfl, rfl, rfl, rfl, rfl, rfl, rfl, rfl, rfl⟩

theorem test_decode_line_3 :
    decode [0x30, 0x10] = .ok (.bmi 0x10, []) ∧
    decode [0x31, 0x10] = .ok (.andIzy 0x10, []) ∧
    decode [0x32] = .ok (.jam32, []) ∧
    decode [0x33, 0x10] = .ok (.rlaIzy 0x10, []) ∧
    decode [0x34, 0x10] = .ok (.nopZpx34 0x10, []) ∧
    decode [0x35, 0x10] = .ok (.andZpx 0x10, []) ∧
    decode [0x36, 0x10] = .ok (.rolZpx 0x10, []) ∧
    decode [0x37, 0x10] = .ok (.rlaZpx 0x10, []) ∧
    decode [0x38] = .ok (.sec, []) ∧
    decode [0x39, 0x34, 0x12] = .ok (.andAby 0x1234, []) ∧
    decode [0x3A] = .ok (.nop3A, []) ∧
    decode [0x3B, 0x34, 0x12] = .ok (.rlaAby 0x1234, []) ∧
    decode [0x3C, 0x34, 0x12] = .ok (.nopAbx3C 0x1234, []) ∧
    decode [0x3D, 0x34, 0x12] = .ok (.andAbx 0x1234, []) ∧
    decode [0x3E, 0x34, 0x12] = .ok (.rolAbx 0x1234, []) ∧
    decode [0x3F, 0x34, 0x12] = .ok (.rlaAbx 0x1234, []) := by
  refine ⟨rfl, rfl, rfl, rfl, rfl, rfl, rfl, rfl, rfl, rfl, rfl, rfl, rfl, rfl, rfl, rfl⟩

theorem test_decode_line_4 :
    decode [0x40] = .ok (.rti, []) ∧
    decode [0x41, 0x10] = .ok (.eorIzx 0x10, []) ∧
    decode [0x42] = .ok (.jam42, []) ∧
    decode [0x43, 0x10] = .ok (.sreIzx 0x10, []) ∧
    decode [0x44, 0x10] = .ok (.nopZp44 0x10, []) ∧
    decode [0x45, 0x10] = .ok (.eorZp 0x10, []) ∧
    decode [0x46, 0x10] = .ok (.lsrZp 0x10, []) ∧
    decode [0x47, 0x10] = .ok (.sreZp 0x10, []) ∧
    decode [0x48] = .ok (.pha, []) ∧
    decode [0x49, 0x10] = .ok (.eorImm 0x10, []) ∧
    decode [0x4A] = .ok (.lsrAcc, []) ∧
    decode [0x4B, 0x10] = .ok (.alrImm 0x10, []) ∧
    decode [0x4C, 0x34, 0x12] = .ok (.jmpAbs 0x1234, []) ∧
    decode [0x4D, 0x34, 0x12] = .ok (.eorAbs 0x1234, []) ∧
    decode [0x4E, 0x34, 0x12] = .ok (.lsrAbs 0x1234, []) ∧
    decode [0x4F, 0x34, 0x12] = .ok (.sreAbs 0x1234, []) := by
  refine ⟨rfl, rfl, rfl, rfl, rfl, rfl, rfl, rfl, rfl, rfl, rfl, rfl, rfl, rfl, rfl, rfl⟩

theorem test_decode_line_5 :
    decode [0x50, 0x10] = .ok (.bvc 0x10, []) ∧
    decode [0x51, 0x10] = .ok (.eorIzy 0x10, []) ∧
    decode [0x52] = .ok (.jam52, []) ∧
    decode [0x53, 0x10] = .ok (.sreIzy 0x10, []) ∧
    decode [0x54, 0x10] = .ok (.nopZpx54 0x10, []) ∧
    decode [0x55, 0x10] = .ok (.eorZpx 0x10, []) ∧
    decode [0x56, 0x10] = .ok (.lsrZpx 0x10, []) ∧
    decode [0x57, 0x10] = .ok (.sreZpx 0x10, []) ∧
    decode [0x58] = .ok (.cli, []) ∧
    decode [0x59, 0x34, 0x12] = .ok (.eorAby 0x1234, []) ∧
    decode [0x5A] = .ok (.nop5A, []) ∧
    decode [0x5B, 0x34, 0x12] = .ok (.sreAby 0x1234, []) ∧
    decode [0x5C, 0x34, 0x12] = .ok (.nopAbx5C 0x1234, []) ∧
    decode [0x5D, 0x34, 0x12] = .ok (.eorAbx 0x1234, []) ∧
    decode [0x5E, 0x34, 0x12] = .ok (.lsrAbx 0x1234, []) ∧
    decode [0x5F, 0x34, 0x12] = .ok (.sreAbx 0x1234, []) := by
  refine ⟨rfl, rfl, rfl, rfl, rfl, rfl, rfl, rfl, rfl, rfl, rfl, rfl, rfl, rfl, rfl, rfl⟩

theorem test_decode_line_6 :
    decode [0x60] = .ok (.rts, []) ∧
    decode [0x61, 0x10] = .ok (.adcIzx 0x10, []) ∧
    decode [0x62] = .ok (.jam62, []) ∧
    decode [0x63, 0x10] = .ok (.rraIzx 0x10, []) ∧
    decode [0x64, 0x10] = .ok (.nopZp64 0x10, []) ∧
    decode [0x65, 0x10] = .ok (.adcZp 0x10, []) ∧
    decode [0x66, 0x10] = .ok (.rorZp 0x10, []) ∧
    decode [0x67, 0x10] = .ok (.rraZp 0x10, []) ∧
    decode [0x68] = .ok (.pla, []) ∧
    decode [0x69, 0x10] = .ok (.adcImm 0x10, []) ∧
    decode [0x6A] = .ok (.rorAcc, []) ∧
    decode [0x6B, 0x10] = .ok (.arrImm 0x10, []) ∧
    decode [0x6C, 0x34, 0x12] = .ok (.jmpInd 0x1234, []) ∧
    decode [0x6D, 0x34, 0x12] = .ok (.adcAbs 0x1234, []) ∧
    decode [0x6E, 0x34, 0x12] = .ok (.rorAbs 0x1234, []) ∧
    decode [0x6F, 0x34, 0x12] = .ok (.rraAbs 0x1234, []) := by
  refine ⟨rfl, rfl, rfl, rfl, rfl, rfl, rfl, rfl, rfl, rfl, rfl, rfl, rfl, rfl, rfl, rfl⟩

theorem test_decode_line_7 :
    decode [0x70, 0x10] = .ok (.bvs 0x10, []) ∧
    decode [0x71, 0x10] = .ok (.adcIzy 0x10, []) ∧
    decode [0x72] = .ok (.jam72, []) ∧
    decode [0x73, 0x10] = .ok (.rraIzy 0x10, []) ∧
    decode [0x74, 0x10] = .ok (.nopZpx74 0x10, []) ∧
    decode [0x75, 0x10] = .ok (.adcZpx 0x10, []) ∧
    decode [0x76, 0x10] = .ok (.rorZpx 0x10, []) ∧
    decode [0x77, 0x10] = .ok (.rraZpx 0x10, []) ∧
    decode [0x78] = .ok (.sei, []) ∧
    decode [0x79, 0x34, 0x12] = .ok (.adcAby 0x1234, []) ∧
    decode [0x7A] = .ok (.nop7A, []) ∧
    decode [0x7B, 0x34, 0x12] = .ok (.rraAby 0x1234, []) ∧
    decode [0x7C, 0x34, 0x12] = .ok (.nopAbx7C 0x1234, []) ∧
    decode [0x7D, 0x34, 0x12] = .ok (.adcAbx 0x1234, []) ∧
    decode [0x7E, 0x34, 0x12] = .ok (.rorAbx 0x1234, []) ∧
    decode [0x7F, 0x34, 0x12] = .ok (.rraAbx 0x1234, []) := by
  refine ⟨rfl, rfl, rfl, rfl, rfl, rfl, rfl, rfl, rfl, rfl, rfl, rfl, rfl, rfl, rfl, rfl⟩

theorem test_decode_line_8 :
    decode [0x80, 0x10] = .ok (.nopImm80 0x10, []) ∧
    decode [0x81, 0x10] = .ok (.staIzx 0x10, []) ∧
    decode [0x82, 0x10] = .ok (.nopImm82 0x10, []) ∧
    decode [0x83, 0x10] = .ok (.saxIzx 0x10, []) ∧
    decode [0x84, 0x10] = .ok (.styZp 0x10, []) ∧
    decode [0x85, 0x10] = .ok (.staZp 0x10, []) ∧
    decode [0x86, 0x10] = .ok (.stxZp 0x10, []) ∧
    decode [0x87, 0x10] = .ok (.saxZp 0x10, []) ∧
    decode [0x88] = .ok (.dey, []) ∧
    decode [0x89, 0x10] = .ok (.nopImm89 0x10, []) ∧
    decode [0x8A] = .ok (.txa, []) ∧
    decode [0x8B, 0x10] = .ok (.aneImm 0x10, []) ∧
    decode [0x8C, 0x34, 0x12] = .ok (.styAbs 0x1234, []) ∧
    decode [0x8D, 0x34, 0x12] = .ok (.staAbs 0x1234, []) ∧
    decode [0x8E, 0x34, 0x12] = .ok (.stxAbs 0x1234, []) ∧
    decode [0x8F, 0x34, 0x12] = .ok (.saxAbs 0x1234, []) := by
  refine ⟨rfl, rfl, rfl, rfl, rfl, rfl, rfl, rfl, rfl, rfl, rfl, rfl, rfl, rfl, rfl, rfl⟩

theorem test_decode_line_9 :
    decode [0x90, 0x10] = .ok (.bcc 0x10, []) ∧
    decode [0x91, 0x10] = .ok (.staIzy 0x10, []) ∧
    decode [0x92] = .ok (.jam92, []) ∧
    decode [0x93, 0x10] = .ok (.shaIzy 0x10, []) ∧
    decode [0x94, 0x10] = .ok (.styZpx 0x10, []) ∧
    decode [0x95, 0x10] = .ok (.staZpx 0x10, []) ∧
    decode [0x96, 0x10] = .ok (.stxZpy 0x10, []) ∧
    decode [0x97, 0x10] = .ok (.saxZpy 0x10, []) ∧
    decode [0x98] = .ok (.tya, []) ∧
    decode [0x99, 0x34, 0x12] = .ok (.staAby 0x1234, []) ∧
    decode [0x9A] = .ok (.txs, []) ∧
    decode [0x9B, 0x34, 0x12] = .ok (.tasAby 0x1234, []) ∧
    decode [0x9C, 0x34, 0x12] = .ok (.shyAbx 0x1234, []) ∧
    decode [0x9D, 0x34, 0x12] = .ok (.staAbx 0x1234, []) ∧
    decode [0x9E, 0x34, 0x12] = .ok (.shxAby 0x1234, []) ∧
    decode [0x9F, 0x34, 0x12] = .ok (.shaAby 0x1234, []) := by
  refine ⟨rfl, rfl, rfl, rfl, rfl, rfl, rfl, rfl, rfl, rfl, rfl, rfl, rfl, rfl, rfl, rfl⟩

theorem test_decode_line_A :
    decode [0xA0, 0x10] = .ok (.ldyImm 0x10, []) ∧
    decode [0xA1, 0x10] = .ok (.ldaIzx 0x10, []) ∧
    decode [0xA2, 0x10] = .ok (.ldxImm 0x10, []) ∧
    decode [0xA3, 0x10] = .ok (.laxIzx 0x10, []) ∧
    decode [0xA4, 0x10] = .ok (.ldyZp 0x10, []) ∧
    decode [0xA5, 0x10] = .ok (.ldaZp 0x10, []) ∧
    decode [0xA6, 0x10] = .ok (.ldxZp 0x10, []) ∧
    decode [0xA7, 0x10] = .ok (.laxZp 0x10, []) ∧
    decode [0xA8] = .ok (.tay, []) ∧
    decode [0xA9, 0x10] = .ok (.ldaImm 0x10, []) ∧
    decode [0xAA] = .ok (.tax, []) ∧
    decode [0xAB, 0x10] = .ok (.lxaImm 0x10, []) ∧
    decode [0xAC, 0x34, 0x12] = .ok (.ldyAbs 0x1234, []) ∧
    decode [0xAD, 0x34, 0x12] = .ok (.ldaAbs 0x1234, []) ∧
    decode [0xAE, 0x34, 0x12] = .ok (.ldxAbs 0x1234, []) ∧
    decode [0xAF, 0x34, 0x12] = .ok (.laxAbs 0x1234, []) := by
  refine ⟨rfl, rfl, rfl, rfl, rfl, rfl, rfl, rfl, rfl, rfl, rfl, rfl, rfl, rfl, rfl, rfl⟩

theorem test_decode_line_B :
    decode [0xB0, 0x10] = .ok (.bcs 0x10, []) ∧
    decode [0xB1, 0x10] = .ok (.ldaIzy 0x10, []) ∧
    decode [0xB2] = .ok (.jamB2, []) ∧
    decode [0xB3, 0x10] = .ok (.laxIzy 0x10, []) ∧
    decode [0xB4, 0x10] = .ok (.ldyZpx 0x10, []) ∧
    decode [0xB5, 0x10] = .ok (.ldaZpx 0x10, []) ∧
    decode [0xB6, 0x10] = .ok (.ldxZpy 0x10, []) ∧
    decode [0xB7, 0x10] = .ok (.laxZpy 0x10, []) ∧
    decode [0xB8] = .ok (.clv, []) ∧
    decode [0xB9, 0x34, 0x12] = .ok (.ldaAby 0x1234, []) ∧
    decode [0xBA] = .ok (.tsx, []) ∧
    decode [0xBB, 0x34, 0x12] = .ok (.lasAby 0x1234, []) ∧
    decode [0xBC, 0x34, 0x12] = .ok (.ldyAbx 0x1234, []) ∧
    decode [0xBD, 0x34, 0x12] = .ok (.ldaAbx 0x1234, []) ∧
    decode [0xBE, 0x34, 0x12] = .ok (.ldxAby 0x1234, []) ∧
    decode [0xBF, 0x34, 0x12] = .ok (.laxAby 0x1234, []) := by
  refine ⟨rfl, rfl, rfl, rfl, rfl, rfl, rfl, rfl, rfl, rfl, rfl, rfl, rfl, rfl, rfl, rfl⟩

theorem test_decode_line_C :
    decode [0xC0, 0x10] = .ok (.cpyImm 0x10, []) ∧
    decode [0xC1, 0x10] = .ok (.cmpIzx 0x10, []) ∧
    decode [0xC2, 0x10] = .ok (.nopImmC2 0x10, []) ∧
    decode [0xC3, 0x10] = .ok (.dcpIzx 0x10, []) ∧
    decode [0xC4, 0x10] = .ok (.cpyZp 0x10, []) ∧
    decode [0xC5, 0x10] = .ok (.cmpZp 0x10, []) ∧
    decode [0xC6, 0x10] = .ok (.decZp 0x10, []) ∧
    decode [0xC7, 0x10] = .ok (.dcpZp 0x10, []) ∧
    decode [0xC8] = .ok (.iny, []) ∧
    decode [0xC9, 0x10] = .ok (.cmpImm 0x10, []) ∧
    decode [0xCA] = .ok (.dex, []) ∧
    decode [0xCB, 0x10] = .ok (.sbxImm 0x10, []) ∧
    decode [0xCC, 0x34, 0x12] = .ok (.cpyAbs 0x1234, []) ∧
    decode [0xCD, 0x34, 0x12] = .ok (.cmpAbs 0x1234, []) ∧
    decode [0xCE, 0x34, 0x12] = .ok (.decAbs 0x1234, []) ∧
    decode [0xCF, 0x34, 0x12] = .ok (.dcpAbs 0x1234, []) := by
  refine ⟨rfl, rfl, rfl, rfl, rfl, rfl, rfl, rfl, rfl, rfl, rfl, rfl, rfl, rfl, rfl, rfl⟩

theorem test_decode_line_D :
    decode [0xD0, 0x10] = .ok (.bne 0x10, []) ∧
    decode [0xD1, 0x10] = .ok (.cmpIzy 0x10, []) ∧
    decode [0xD2] = .ok (.jamD2, []) ∧
    decode [0xD3, 0x10] = .ok (.dcpIzy 0x10, []) ∧
    decode [0xD4, 0x10] = .ok (.nopZpxD4 0x10, []) ∧
    decode [0xD5, 0x10] = .ok (.cmpZpx 0x10, []) ∧
    decode [0xD6, 0x10] = .ok (.decZpx 0x10, []) ∧
    decode [0xD7, 0x10] = .ok (.dcpZpx 0x10, []) ∧
    decode [0xD8] = .ok (.cld, []) ∧
    decode [0xD9, 0x34, 0x12] = .ok (.cmpAby 0x1234, []) ∧
    decode [0xDA] = .ok (.nopDA, []) ∧
    decode [0xDB, 0x34, 0x12] = .ok (.dcpAby 0x1234, []) ∧
    decode [0xDC, 0x34, 0x12] = .ok (.nopAbxDC 0x1234, []) ∧
    decode [0xDD, 0x34, 0x12] = .ok (.cmpAbx 0x1234, []) ∧
    decode [0xDE, 0x34, 0x12] = .ok (.decAbx 0x1234, []) ∧
    decode [0xDF, 0x34, 0x12] = .ok (.dcpAbx 0x1234, []) := by
  refine ⟨rfl, rfl, rfl, rfl, rfl, rfl, rfl, rfl, rfl, rfl, rfl, rfl, rfl, rfl, rfl, rfl⟩

theorem test_decode_line_E :
    decode [0xE0, 0x10] = .ok (.cpxImm 0x10, []) ∧
    decode [0xE1, 0x10] = .ok (.sbcIzx 0x10, []) ∧
    decode [0xE2, 0x10] = .ok (.nopImmE2 0x10, []) ∧
    decode [0xE3, 0x10] = .ok (.iscIzx 0x10, []) ∧
    decode [0xE4, 0x10] = .ok (.cpxZp 0x10, []) ∧
    decode [0xE5, 0x10] = .ok (.sbcZp 0x10, []) ∧
    decode [0xE6, 0x10] = .ok (.incZp 0x10, []) ∧
    decode [0xE7, 0x10] = .ok (.iscZp 0x10, []) ∧
    decode [0xE8] = .ok (.inx, []) ∧
    decode [0xE9, 0x10] = .ok (.sbcImm 0x10, []) ∧
    decode [0xEA] = .ok (.nop, []) ∧
    decode [0xEB, 0x10] = .ok (.usbcImm 0x10, []) ∧
    decode [0xEC, 0x34, 0x12] = .ok (.cpxAbs 0x1234, []) ∧
    decode [0xED, 0x34, 0x12] = .ok (.sbcAbs 0x1234, []) ∧
    decode [0xEE, 0x34, 0x12] = .ok (.incAbs 0x1234, []) ∧
    decode [0xEF, 0x34, 0x12] = .ok (.iscAbs 0x1234, []) := by
  refine ⟨rfl, rfl, rfl, rfl, rfl, rfl, rfl, rfl, rfl, rfl, rfl, rfl, rfl, rfl, rfl, rfl⟩

theorem test_decode_line_F :
    decode [0xF0, 0x10] = .ok (.beq 0x10, []) ∧
    decode [0xF1, 0x10] = .ok (.sbcIzy 0x10, []) ∧
    decode [0xF2] = .ok (.jamF2, []) ∧
    decode [0xF3, 0x10] = .ok (.iscIzy 0x10, []) ∧
    decode [0xF4, 0x10] = .ok (.nopZpxF4 0x10, []) ∧
    decode [0xF5, 0x10] = .ok (.sbcZpx 0x10, []) ∧
    decode [0xF6, 0x10] = .ok (.incZpx 0x10, []) ∧
    decode [0xF7, 0x10] = .ok (.iscZpx 0x10, []) ∧
    decode [0xF8] = .ok (.sed, []) ∧
    decode [0xF9, 0x34, 0x12] = .ok (.sbcAby 0x1234, []) ∧
    decode [0xFA] = .ok (.nopFA, []) ∧
    decode [0xFB, 0x34, 0x12] = .ok (.iscAby 0x1234, []) ∧
    decode [0xFC, 0x34, 0x12] = .ok (.nopAbxFC 0x1234, []) ∧
    decode [0xFD, 0x34, 0x12] = .ok (.sbcAbx 0x1234, []) ∧
    decode [0xFE, 0x34, 0x12] = .ok (.incAbx 0x1234, []) ∧
    decode [0xFF, 0x34, 0x12] = .ok (.iscAbx 0x1234, []) := by
  refine ⟨rfl, rfl, rfl, rfl, rfl, rfl, rfl, rfl, rfl, rfl, rfl, rfl, rfl, rfl, rfl, rfl⟩

/-! ## One step of each instruction, from the vectors of 95_test_vectors.md -/

-- SY2 of 95_test_vectors.md: BRK
theorem test_brk_SY2 : let t := after ({ base with sp := 0x01, flagD := true, flagI := true }) [0x00, 0xEA] [(0xFFFE, 0x34), (0xFFFF, 0x12)]; t.pc = 0x1234 ∧ t.read 0x0101 = 0x06 := by
  decide

-- SY3 of 95_test_vectors.md: BRK
theorem test_brk_SY3 : let t := after ({ base with pc := 0xFFFF }) [0x00] [(0xFFFE, 0x00)]; t.pc = 0x0000 ∧ t.read 0x01FD = 0x00 := by
  decide

-- LG3 of 95_test_vectors.md: ORA #$80
theorem test_ora_LG3 : let t := after ({ base with a := 0x01 }) [0x09, 0x80] []; t.a = 0x81 ∧ t.flagN = true := by
  decide

-- LG4 of 95_test_vectors.md: ORA #$00
theorem test_ora_LG4 : let t := after ({ base with a := 0x00 }) [0x09, 0x00] []; t.flagZ = true ∧ t.pc = 0x0602 := by
  decide

-- UD36 of 95_test_vectors.md: JAM
theorem test_jam_UD36 : let t := after (base) [0x02] []; t.pc = 0x0600 ∧ t.cycles = 2 := by
  decide

-- UD37 of 95_test_vectors.md: JAM
theorem test_jam_UD37 : let t := after ({ base with variant := ⟨true, .skip⟩ }) [0x02] []; t.pc = 0x0601 ∧ t.cycles = 2 := by
  decide

-- UD1 of 95_test_vectors.md: SLO $10
theorem test_slo_UD1 : let t := after ({ base with a := 0x01 }) [0x07, 0x10] [(0x0010, 0x81)]; t.read 0x0010 = 0x02 ∧ t.a = 0x03 := by
  decide

-- UD38 of 95_test_vectors.md: SLO $10
theorem test_slo_UD38 : let t := after ({ base with a := 0x01, variant := ⟨true, .skip⟩ }) [0x07, 0x10] [(0x0010, 0x81)]; t.cycles = 5 := by
  decide

-- SY6 of 95_test_vectors.md: NOP
theorem test_nop_SY6 : let t := after ({ base with a := 0x01, flagN := true }) [0xEA] []; t.pc = 0x0601 ∧ t.cycles = 2 := by
  decide

-- UD29 of 95_test_vectors.md: NOP
theorem test_nop_UD29 : let t := after ({ base with a := 0x01 }) [0x1A] []; t.pc = 0x0601 ∧ t.cycles = 2 := by
  decide

-- SH1 of 95_test_vectors.md: ASL A
theorem test_asl_SH1 : let t := after ({ base with a := 0x80 }) [0x0A] []; t.a = 0x00 ∧ t.flagZ = true := by
  decide

-- SH3 of 95_test_vectors.md: ASL $10
theorem test_asl_SH3 : let t := after (base) [0x06, 0x10] [(0x0010, 0xC1)]; t.read 0x0010 = 0x82 ∧ t.flagN = true := by
  decide

-- ST5 of 95_test_vectors.md: PHP
theorem test_php_ST5 : let t := after ({ base with flagN := true, flagC := true }) [0x08] []; t.read 0x01FD = 0xB1 ∧ t.sp = 0xFC := by
  decide

-- UD15 of 95_test_vectors.md: ANC #$80
theorem test_anc_UD15 : let t := after ({ base with a := 0xFF }) [0x0B, 0x80] []; t.a = 0x80 ∧ t.flagN = true := by
  decide

-- UD16 of 95_test_vectors.md: ANC #$7F
theorem test_anc_UD16 : let t := after ({ base with a := 0xFF, flagC := true }) [0x2B, 0x7F] []; t.a = 0x7F ∧ t.flagC = false := by
  decide

-- BR8 of 95_test_vectors.md: BPL +$02
theorem test_bpl_BR8 : let t := after ({ base with flagN := true }) [0x10, 0x02] []; t.pc = 0x0602 ∧ t.cycles = 2 := by
  decide

-- FL1 of 95_test_vectors.md: CLC
theorem test_clc_FL1 : let t := after ({ base with flagC := true }) [0x18] []; t.flagC = false ∧ t.pc = 0x0601 := by
  decide

-- CF4 of 95_test_vectors.md: JSR $1234
theorem test_jsr_CF4 : let t := after ({ base with sp := 0x00 }) [0x20, 0x34, 0x12] []; t.pc = 0x1234 ∧ t.read 0x0100 = 0x06 := by
  decide

-- CF7 of 95_test_vectors.md: JSR $0101
theorem test_jsr_CF7 : let t := after ({ base with pc := 0x017E, sp := 0x81 }) [0x20, 0x01, 0x01] []; t.pc = 0x8001 ∧ t.read 0x0181 = 0x01 := by
  decide

-- LG1 of 95_test_vectors.md: AND #$0F
theorem test_and_LG1 : let t := after ({ base with a := 0xF0 }) [0x29, 0x0F] []; t.a = 0x00 ∧ t.flagZ = true := by
  decide

-- LG2 of 95_test_vectors.md: AND $10,X
theorem test_and_LG2 : let t := after ({ base with a := 0xFF, x := 0x01 }) [0x35, 0x10] [(0x0011, 0x80)]; t.a = 0x80 ∧ t.flagN = true := by
  decide

-- UD3 of 95_test_vectors.md: RLA $10
theorem test_rla_UD3 : let t := after ({ base with a := 0xFF, flagC := true }) [0x27, 0x10] [(0x0010, 0x80)]; t.read 0x0010 = 0x01 ∧ t.a = 0x01 := by
  decide

-- LG7 of 95_test_vectors.md: BIT $10
theorem test_bit_LG7 : let t := after ({ base with a := 0x01 }) [0x24, 0x10] [(0x0010, 0xC0)]; t.flagN = true ∧ t.flagV = true := by
  decide

-- LG8 of 95_test_vectors.md: BIT $1234
theorem test_bit_LG8 : let t := after ({ base with a := 0xFF, flagN := true, flagV := true }) [0x2C, 0x34, 0x12] [(0x1234, 0x3F)]; t.flagN = false ∧ t.flagV = false := by
  decide

-- SH6 of 95_test_vectors.md: ROL A
theorem test_rol_SH6 : let t := after ({ base with a := 0x80, flagC := true }) [0x2A] []; t.a = 0x01 ∧ t.cycles = 2 := by
  decide

-- SH7 of 95_test_vectors.md: ROL $10,X
theorem test_rol_SH7 : let t := after ({ base with x := 0x01 }) [0x36, 0x10] [(0x0011, 0x40)]; t.read 0x0011 = 0x80 ∧ t.flagN = true := by
  decide

-- ST9 of 95_test_vectors.md: PLP
theorem test_plp_ST9 : let t := after ({ base with sp := 0xFC, flagN := true, flagV := true, flagD := true, flagI := true, flagZ := true, flagC := true }) [0x28] [(0x01FD, 0x30)]; t.sp = 0xFD ∧ t.flagN = false := by
  decide

-- ST10 of 95_test_vectors.md: PLP
theorem test_plp_ST10 : let t := after ({ base with sp := 0xFC }) [0x28] [(0x01FD, 0xCF)]; t.sp = 0xFD ∧ t.flagN = true := by
  decide

-- BR7 of 95_test_vectors.md: BMI +$02
theorem test_bmi_BR7 : let t := after ({ base with flagN := true }) [0x30, 0x02] []; t.pc = 0x0604 ∧ t.cycles = 3 := by
  decide

-- FL2 of 95_test_vectors.md: SEC
theorem test_sec_FL2 : let t := after (base) [0x38] []; t.flagC = true ∧ t.pc = 0x0601 := by
  decide

-- SY4 of 95_test_vectors.md: RTI
theorem test_rti_SY4 : let t := after ({ base with sp := 0xFA, flagI := true }) [0x40] [(0x01FB, 0x31), (0x01FC, 0x02), (0x01FD, 0x06)]; t.pc = 0x0602 ∧ t.sp = 0xFD := by
  decide

-- SY5 of 95_test_vectors.md: RTI
theorem test_rti_SY5 : let t := after ({ base with sp := 0xFA }) [0x40] [(0x01FB, 0xFF), (0x01FC, 0x00), (0x01FD, 0x80)]; t.pc = 0x8000 ∧ t.sp = 0xFD := by
  decide

-- LG6 of 95_test_vectors.md: EOR ($10),Y
theorem test_eor_LG6 : let t := after ({ base with a := 0x0F, y := 0x01 }) [0x51, 0x10] [(0x0010, 0xFF), (0x0011, 0x20), (0x2100, 0xF0)]; t.a = 0xFF ∧ t.flagN = true := by
  decide

-- UD4 of 95_test_vectors.md: SRE $10
theorem test_sre_UD4 : let t := after ({ base with a := 0xFF }) [0x47, 0x10] [(0x0010, 0x03)]; t.read 0x0010 = 0x01 ∧ t.a = 0xFE := by
  decide

-- SH4 of 95_test_vectors.md: LSR A
theorem test_lsr_SH4 : let t := after ({ base with a := 0x01 }) [0x4A] []; t.a = 0x00 ∧ t.flagZ = true := by
  decide

-- SH5 of 95_test_vectors.md: LSR $1234
theorem test_lsr_SH5 : let t := after ({ base with flagN := true }) [0x4E, 0x34, 0x12] [(0x1234, 0xFE)]; t.read 0x1234 = 0x7F ∧ t.flagN = false := by
  decide

-- ST1 of 95_test_vectors.md: PHA
theorem test_pha_ST1 : let t := after ({ base with a := 0x42 }) [0x48] []; t.read 0x01FD = 0x42 ∧ t.sp = 0xFC := by
  decide

-- ST2 of 95_test_vectors.md: PHA
theorem test_pha_ST2 : let t := after ({ base with a := 0x42, sp := 0x00 }) [0x48] []; t.read 0x0100 = 0x42 ∧ t.sp = 0xFF := by
  decide

-- UD17 of 95_test_vectors.md: ALR #$03
theorem test_alr_UD17 : let t := after ({ base with a := 0xFF }) [0x4B, 0x03] []; t.a = 0x01 ∧ t.flagC = true := by
  decide

-- AM16 of 95_test_vectors.md: JMP ($02FF)
theorem test_jmp_AM16 : let t := after (base) [0x6C, 0xFF, 0x02] [(0x0200, 0x40), (0x02FF, 0x00), (0x0300, 0x50)]; t.pc = 0x4000 ∧ t.cycles = 5 := by
  decide

-- BR10 of 95_test_vectors.md: BVC +$02
theorem test_bvc_BR10 : let t := after ({ base with flagV := true }) [0x50, 0x02] []; t.pc = 0x0602 ∧ t.cycles = 2 := by
  decide

-- FL3 of 95_test_vectors.md: CLI
theorem test_cli_FL3 : let t := after ({ base with flagI := true }) [0x58] []; t.flagI = false ∧ t.pc = 0x0601 := by
  decide

-- CF5 of 95_test_vectors.md: RTS
theorem test_rts_CF5 : let t := after ({ base with sp := 0xFB }) [0x60] [(0x01FC, 0x02), (0x01FD, 0x06)]; t.pc = 0x0603 ∧ t.sp = 0xFD := by
  decide

-- CF6 of 95_test_vectors.md: RTS
theorem test_rts_CF6 : let t := after ({ base with sp := 0xFF }) [0x60] [(0x0100, 0xFF), (0x0101, 0xFF)]; t.pc = 0x0000 ∧ t.sp = 0x01 := by
  decide

-- AR3 of 95_test_vectors.md: ADC #$80
theorem test_adc_AR3 : let t := after ({ base with a := 0x80 }) [0x69, 0x80] []; t.a = 0x00 ∧ t.flagV = true := by
  decide

-- AD1 of 95_test_vectors.md: ADC #$01
theorem test_adc_AD1 : let t := after ({ base with a := 0x99, flagD := true }) [0x69, 0x01] []; t.a = 0x00 ∧ t.flagN = true := by
  decide

-- UD5 of 95_test_vectors.md: RRA $10
theorem test_rra_UD5 : let t := after ({ base with a := 0x10, flagC := true }) [0x67, 0x10] [(0x0010, 0x02)]; t.read 0x0010 = 0x81 ∧ t.a = 0x91 := by
  decide

-- UD6 of 95_test_vectors.md: RRA $10
theorem test_rra_UD6 : let t := after ({ base with a := 0x19, flagD := true }) [0x67, 0x10] [(0x0010, 0x03)]; t.read 0x0010 = 0x01 ∧ t.a = 0x21 := by
  decide

-- SH8 of 95_test_vectors.md: ROR A
theorem test_ror_SH8 : let t := after ({ base with a := 0x01, flagC := true }) [0x6A] []; t.a = 0x80 ∧ t.flagN = true := by
  decide

-- SH10 of 95_test_vectors.md: ROR $1200,X
theorem test_ror_SH10 : let t := after ({ base with x := 0xFF, flagC := true }) [0x7E, 0x00, 0x12] [(0x12FF, 0x00)]; t.read 0x12FF = 0x80 ∧ t.flagN = true := by
  decide

-- ST3 of 95_test_vectors.md: PLA
theorem test_pla_ST3 : let t := after ({ base with sp := 0xFC }) [0x68] [(0x01FD, 0x80)]; t.a = 0x80 ∧ t.sp = 0xFD := by
  decide

-- ST4 of 95_test_vectors.md: PLA
theorem test_pla_ST4 : let t := after ({ base with a := 0x01, sp := 0xFF }) [0x68] [(0x0100, 0x00)]; t.a = 0x00 ∧ t.sp = 0x00 := by
  decide

-- UD19 of 95_test_vectors.md: ARR #$FF
theorem test_arr_UD19 : let t := after ({ base with a := 0x80 }) [0x6B, 0xFF] []; t.a = 0x40 ∧ t.flagV = true := by
  decide

-- UD20 of 95_test_vectors.md: ARR #$FF
theorem test_arr_UD20 : let t := after ({ base with a := 0x55, flagD := true, flagC := true }) [0x6B, 0xFF] []; t.a = 0x00 ∧ t.flagN = true := by
  decide

-- BR9 of 95_test_vectors.md: BVS +$02
theorem test_bvs_BR9 : let t := after ({ base with flagV := true }) [0x70, 0x02] []; t.pc = 0x0604 ∧ t.cycles = 3 := by
  decide

-- FL4 of 95_test_vectors.md: SEI
theorem test_sei_FL4 : let t := after (base) [0x78] []; t.flagI = true ∧ t.pc = 0x0601 := by
  decide

-- AM8 of 95_test_vectors.md: STA $12F0,X
theorem test_sta_AM8 : let t := after ({ base with a := 0x5A, x := 0x10 }) [0x9D, 0xF0, 0x12] []; t.read 0x1300 = 0x5A ∧ t.cycles = 5 := by
  decide

-- AM15 of 95_test_vectors.md: STA ($10),Y
theorem test_sta_AM15 : let t := after ({ base with a := 0x99, y := 0x20 }) [0x91, 0x10] [(0x0010, 0xF0), (0x0011, 0x12)]; t.read 0x1310 = 0x99 ∧ t.cycles = 6 := by
  decide

-- UD11 of 95_test_vectors.md: SAX $10
theorem test_sax_UD11 : let t := after ({ base with a := 0xF0, x := 0x3C }) [0x87, 0x10] []; t.read 0x0010 = 0x30 ∧ t.cycles = 3 := by
  decide

-- UD12 of 95_test_vectors.md: SAX $10,Y
theorem test_sax_UD12 : let t := after ({ base with a := 0xFF, x := 0x0F, y := 0xF1 }) [0x97, 0x10] []; t.read 0x0001 = 0x0F ∧ t.cycles = 4 := by
  decide

-- LS12 of 95_test_vectors.md: STY $10,X
theorem test_sty_LS12 : let t := after ({ base with x := 0x01, y := 0x66 }) [0x94, 0x10] []; t.read 0x0011 = 0x66 ∧ t.cycles = 4 := by
  decide

-- LS13 of 95_test_vectors.md: STY $0300
theorem test_sty_LS13 : let t := after ({ base with y := 0x02 }) [0x8C, 0x00, 0x03] []; t.read 0x0300 = 0x02 ∧ t.cycles = 4 := by
  decide

-- LS10 of 95_test_vectors.md: STX $10,Y
theorem test_stx_LS10 : let t := after ({ base with x := 0x77, y := 0xF8 }) [0x96, 0x10] []; t.read 0x0008 = 0x77 ∧ t.cycles = 4 := by
  decide

-- LS11 of 95_test_vectors.md: STX $0300
theorem test_stx_LS11 : let t := after ({ base with x := 0x01 }) [0x8E, 0x00, 0x03] []; t.read 0x0300 = 0x01 ∧ t.cycles = 4 := by
  decide

-- ID8 of 95_test_vectors.md: DEY
theorem test_dey_ID8 : let t := after ({ base with y := 0x01 }) [0x88] []; t.y = 0x00 ∧ t.flagZ = true := by
  decide

-- LS16 of 95_test_vectors.md: TXA
theorem test_txa_LS16 : let t := after ({ base with a := 0x80, x := 0x7F, flagN := true }) [0x8A] []; t.a = 0x7F ∧ t.flagN = false := by
  decide

-- BR13 of 95_test_vectors.md: BCC +$10
theorem test_bcc_BR13 : let t := after ({ base with pc := 0xFFFE }) [0x90, 0x10] []; t.pc = 0x0010 ∧ t.cycles = 3 := by
  decide

-- BR14 of 95_test_vectors.md: BCC -$10
theorem test_bcc_BR14 : let t := after ({ base with pc := 0xFFFE }) [0x90, 0xF0] []; t.pc = 0xFFF0 ∧ t.cycles = 4 := by
  decide

-- US5 of 95_test_vectors.md: SHA $1234,Y
theorem test_sha_US5 : let t := after ({ base with a := 0xFF, x := 0xFF, y := 0x01 }) [0x9F, 0x34, 0x12] []; t.read 0x1235 = 0x13 ∧ t.cycles = 5 := by
  decide

-- US18 of 95_test_vectors.md: SHA ($FF),Y
theorem test_sha_US18 : let t := after ({ base with a := 0xFF, x := 0xFF, y := 0x01 }) [0x93, 0xFF] [(0x0000, 0x40), (0x00FF, 0x00)]; t.read 0x4001 = 0x41 ∧ t.cycles = 6 := by
  decide

-- LS17 of 95_test_vectors.md: TYA
theorem test_tya_LS17 : let t := after ({ base with a := 0x01, y := 0x00 }) [0x98] []; t.a = 0x00 ∧ t.flagZ = true := by
  decide

-- LS19 of 95_test_vectors.md: TXS
theorem test_txs_LS19 : let t := after ({ base with x := 0x00, flagN := true }) [0x9A] []; t.sp = 0x00 ∧ t.cycles = 2 := by
  decide

-- US9 of 95_test_vectors.md: TAS $1234,Y
theorem test_tas_US9 : let t := after ({ base with a := 0xFF, x := 0xFF, y := 0x01 }) [0x9B, 0x34, 0x12] []; t.read 0x1235 = 0x13 ∧ t.sp = 0xFF := by
  decide

-- US17 of 95_test_vectors.md: TAS $2000,Y
theorem test_tas_US17 : let t := after ({ base with a := 0xF0, x := 0x0F, y := 0x05 }) [0x9B, 0x00, 0x20] []; t.read 0x2005 = 0x00 ∧ t.sp = 0x00 := by
  decide

-- US3 of 95_test_vectors.md: SHY $1234,X
theorem test_shy_US3 : let t := after ({ base with x := 0x01, y := 0xFF }) [0x9C, 0x34, 0x12] []; t.read 0x1235 = 0x13 ∧ t.cycles = 5 := by
  decide

-- US20 of 95_test_vectors.md: SHY $1234,X
theorem test_shy_US20 : let t := after ({ base with x := 0x01, y := 0xFF, flagD := true, variant := ⟨false, .full⟩ }) [0x9C, 0x34, 0x12] []; t.read 0x1235 = 0x13 ∧ t.cycles = 5 := by
  decide

-- US1 of 95_test_vectors.md: SHX $1234,Y
theorem test_shx_US1 : let t := after ({ base with x := 0xFF, y := 0x01 }) [0x9E, 0x34, 0x12] []; t.read 0x1235 = 0x13 ∧ t.cycles = 5 := by
  decide

-- US19 of 95_test_vectors.md: SHX $1234,Y
theorem test_shx_US19 : let t := after ({ base with x := 0xFF, y := 0x01, variant := ⟨true, .skip⟩ }) [0x9E, 0x34, 0x12] []; t.read 0x1235 = 0x13 ∧ t.cycles = 5 := by
  decide

-- LS5 of 95_test_vectors.md: LDY $10,X
theorem test_ldy_LS5 : let t := after ({ base with x := 0x05 }) [0xB4, 0x10] [(0x0015, 0x00)]; t.flagZ = true ∧ t.pc = 0x0602 := by
  decide

-- LS6 of 95_test_vectors.md: LDY $12FF,X
theorem test_ldy_LS6 : let t := after ({ base with x := 0x01 }) [0xBC, 0xFF, 0x12] [(0x1300, 0x01)]; t.y = 0x01 ∧ t.cycles = 5 := by
  decide

-- AM7 of 95_test_vectors.md: LDA $FFFF,Y
theorem test_lda_AM7 : let t := after ({ base with y := 0x01 }) [0xB9, 0xFF, 0xFF] [(0x0000, 0x33)]; t.a = 0x33 ∧ t.cycles = 5 := by
  decide

-- AM10 of 95_test_vectors.md: LDA ($FE,X)
theorem test_lda_AM10 : let t := after ({ base with x := 0x01 }) [0xA1, 0xFE] [(0x0000, 0x12), (0x00FF, 0x34), (0x1234, 0x77)]; t.a = 0x77 ∧ t.cycles = 6 := by
  decide

-- AM3 of 95_test_vectors.md: LDX $F0,Y
theorem test_ldx_AM3 : let t := after ({ base with y := 0x20 }) [0xB6, 0xF0] [(0x0010, 0x07)]; t.x = 0x07 ∧ t.cycles = 4 := by
  decide

-- UD13 of 95_test_vectors.md: LAX $10
theorem test_lax_UD13 : let t := after (base) [0xA7, 0x10] [(0x0010, 0x80)]; t.a = 0x80 ∧ t.x = 0x80 := by
  decide

-- UD39 of 95_test_vectors.md: LAX $12FF,Y
theorem test_lax_UD39 : let t := after ({ base with y := 0x01, variant := ⟨true, .skip⟩ }) [0xBF, 0xFF, 0x12] [(0x1300, 0x00)]; t.cycles = 5 := by
  decide

-- LS15 of 95_test_vectors.md: TAY
theorem test_tay_LS15 : let t := after ({ base with a := 0x00, y := 0x09 }) [0xA8] []; t.y = 0x00 ∧ t.flagZ = true := by
  decide

-- LS14 of 95_test_vectors.md: TAX
theorem test_tax_LS14 : let t := after ({ base with a := 0x80 }) [0xAA] []; t.x = 0x80 ∧ t.flagN = true := by
  decide

-- BR2 of 95_test_vectors.md: BCS *
theorem test_bcs_BR2 : let t := after (base) [0xB0, 0xFE] []; t.pc = 0x0602 ∧ t.cycles = 2 := by
  decide

-- BR11 of 95_test_vectors.md: BCS *
theorem test_bcs_BR11 : let t := after ({ base with pc := 0x06FE, flagC := true }) [0xB0, 0xFE] []; t.pc = 0x06FE ∧ t.cycles = 4 := by
  decide

-- FL5 of 95_test_vectors.md: CLV
theorem test_clv_FL5 : let t := after ({ base with flagV := true }) [0xB8] []; t.flagV = false ∧ t.pc = 0x0601 := by
  decide

-- LS18 of 95_test_vectors.md: TSX
theorem test_tsx_LS18 : let t := after ({ base with x := 0x01, sp := 0x00 }) [0xBA] []; t.x = 0x00 ∧ t.flagZ = true := by
  decide

-- UD24 of 95_test_vectors.md: LAS $1200,Y
theorem test_las_UD24 : let t := after ({ base with y := 0x01, sp := 0xF0 }) [0xBB, 0x00, 0x12] [(0x1201, 0x3F)]; t.a = 0x30 ∧ t.x = 0x30 := by
  decide

-- UD40 of 95_test_vectors.md: LAS $1200,Y
theorem test_las_UD40 : let t := after ({ base with y := 0x01, sp := 0xF0, variant := ⟨true, .skip⟩ }) [0xBB, 0x00, 0x12] [(0x1201, 0x3F)]; t.cycles = 4 := by
  decide

-- CP7 of 95_test_vectors.md: CPY #$80
theorem test_cpy_CP7 : let t := after ({ base with y := 0x7F }) [0xC0, 0x80] []; t.flagN = true ∧ t.pc = 0x0602 := by
  decide

-- CP8 of 95_test_vectors.md: CPY $1234
theorem test_cpy_CP8 : let t := after ({ base with y := 0x90 }) [0xCC, 0x34, 0x12] [(0x1234, 0x10)]; t.flagN = true ∧ t.flagC = true := by
  decide

-- CP2 of 95_test_vectors.md: CMP #$11
theorem test_cmp_CP2 : let t := after ({ base with a := 0x10 }) [0xC9, 0x11] []; t.flagN = true ∧ t.pc = 0x0602 := by
  decide

-- CP4 of 95_test_vectors.md: CMP #$01
theorem test_cmp_CP4 : let t := after ({ base with a := 0x81, flagV := true }) [0xC9, 0x01] []; t.flagN = true ∧ t.flagC = true := by
  decide

-- UD7 of 95_test_vectors.md: DCP $10
theorem test_dcp_UD7 : let t := after ({ base with a := 0x10 }) [0xC7, 0x10] [(0x0010, 0x11)]; t.read 0x0010 = 0x10 ∧ t.flagZ = true := by
  decide

-- UD8 of 95_test_vectors.md: DCP ($10),Y
theorem test_dcp_UD8 : let t := after ({ base with a := 0x00, y := 0x00 }) [0xD3, 0x10] [(0x0010, 0x00), (0x0011, 0x20), (0x2000, 0x00)]; t.read 0x2000 = 0xFF ∧ t.cycles = 8 := by
  decide

-- ID3 of 95_test_vectors.md: DEC $10
theorem test_dec_ID3 : let t := after (base) [0xC6, 0x10] [(0x0010, 0x00)]; t.read 0x0010 = 0xFF ∧ t.flagN = true := by
  decide

-- ID4 of 95_test_vectors.md: DEC $1234
theorem test_dec_ID4 : let t := after (base) [0xCE, 0x34, 0x12] [(0x1234, 0x01)]; t.read 0x1234 = 0x00 ∧ t.flagZ = true := by
  decide

-- ID6 of 95_test_vectors.md: INY
theorem test_iny_ID6 : let t := after ({ base with y := 0x7F }) [0xC8] []; t.y = 0x80 ∧ t.flagN = true := by
  decide

-- ID7 of 95_test_vectors.md: DEX
theorem test_dex_ID7 : let t := after ({ base with x := 0x00 }) [0xCA] []; t.x = 0xFF ∧ t.flagN = true := by
  decide

-- UD21 of 95_test_vectors.md: SBX #$01
theorem test_sbx_UD21 : let t := after ({ base with a := 0xFF, x := 0x01 }) [0xCB, 0x01] []; t.x = 0x00 ∧ t.flagZ = true := by
  decide

-- UD22 of 95_test_vectors.md: SBX #$10
theorem test_sbx_UD22 : let t := after ({ base with a := 0x0F, x := 0xFF, flagV := true }) [0xCB, 0x10] []; t.flagN = true ∧ t.pc = 0x0602 := by
  decide

-- BR4 of 95_test_vectors.md: BNE -$80
theorem test_bne_BR4 : let t := after (base) [0xD0, 0x80] []; t.pc = 0x0582 ∧ t.cycles = 4 := by
  decide

-- BR12 of 95_test_vectors.md: BNE +$10
theorem test_bne_BR12 : let t := after ({ base with pc := 0x06F0 }) [0xD0, 0x10] []; t.pc = 0x0702 ∧ t.cycles = 4 := by
  decide

-- FL6 of 95_test_vectors.md: CLD
theorem test_cld_FL6 : let t := after ({ base with flagD := true }) [0xD8] []; t.flagD = false ∧ t.pc = 0x0601 := by
  decide

-- CP5 of 95_test_vectors.md: CPX $10
theorem test_cpx_CP5 : let t := after ({ base with x := 0x00 }) [0xE4, 0x10] [(0x0010, 0x01)]; t.flagN = true ∧ t.pc = 0x0602 := by
  decide

-- CP6 of 95_test_vectors.md: CPX #$FF
theorem test_cpx_CP6 : let t := after ({ base with x := 0xFF }) [0xE0, 0xFF] []; t.flagZ = true ∧ t.flagC = true := by
  decide

-- AD8 of 95_test_vectors.md: SBC #$01
theorem test_sbc_AD8 : let t := after ({ base with a := 0x00, flagD := true, flagC := true }) [0xE9, 0x01] []; t.a = 0x99 ∧ t.flagN = true := by
  decide

-- UD9 of 95_test_vectors.md: ISC $10
theorem test_isc_UD9 : let t := after ({ base with a := 0x10, flagC := true }) [0xE7, 0x10] [(0x0010, 0x0F)]; t.read 0x0010 = 0x10 ∧ t.a = 0x00 := by
  decide

-- UD10 of 95_test_vectors.md: ISC $10
theorem test_isc_UD10 : let t := after ({ base with a := 0x10, flagC := true }) [0xE7, 0x10] [(0x0010, 0xFF)]; t.read 0x0010 = 0x00 ∧ t.cycles = 5 := by
  decide

-- AM17 of 95_test_vectors.md: INC $12F0,X
theorem test_inc_AM17 : let t := after ({ base with x := 0x10 }) [0xFE, 0xF0, 0x12] [(0x1300, 0xFF)]; t.read 0x1300 = 0x00 ∧ t.flagZ = true := by
  decide

-- ID2 of 95_test_vectors.md: INC $10
theorem test_inc_ID2 : let t := after (base) [0xE6, 0x10] [(0x0010, 0x7F)]; t.read 0x0010 = 0x80 ∧ t.flagN = true := by
  decide

-- ID5 of 95_test_vectors.md: INX
theorem test_inx_ID5 : let t := after ({ base with x := 0xFF }) [0xE8] []; t.x = 0x00 ∧ t.flagZ = true := by
  decide

-- UD23 of 95_test_vectors.md: USBC #$01
theorem test_usbc_UD23 : let t := after ({ base with a := 0x00, flagC := true }) [0xEB, 0x01] []; t.a = 0xFF ∧ t.flagN = true := by
  decide

-- BR5 of 95_test_vectors.md: BEQ +$7F
theorem test_beq_BR5 : let t := after ({ base with flagZ := true }) [0xF0, 0x7F] []; t.pc = 0x0681 ∧ t.cycles = 3 := by
  decide

-- BR6 of 95_test_vectors.md: BEQ +$00
theorem test_beq_BR6 : let t := after ({ base with flagZ := true }) [0xF0, 0x00] []; t.pc = 0x0602 ∧ t.cycles = 3 := by
  decide

-- FL8 of 95_test_vectors.md: SED
theorem test_sed_FL8 : let t := after ({ base with variant := ⟨false, .full⟩ }) [0xF8] []; t.flagD = true ∧ t.pc = 0x0601 := by
  decide

-- R255, R256: with the unknown constants; UD25 of the vectors fixes a constant, here it stays free.
theorem test_ane : (done (.aneImm 0x0F) { base with a := 0x55, x := 0x33 }).a = (0x55 ||| Config.aneMagic) &&& 0x33 &&& 0x0F :=
  rfl
theorem test_lxa : (done (.lxaImm 0x0F) { base with a := 0x55 }).x = (0x55 ||| Config.lxaMagic) &&& 0x0F := rfl

/-! ## Witnesses: for each statement with hypotheses, a state and operands that meet them, clause by clause -/

/-- The base state with cells set. -/
def mem (cells : List (Addr × Byte)) : State := withCells base cells

/-- The base state of the other variant. -/
def skipping : State := { base with variant := ⟨true, .skip⟩ }

-- StepRunsDecodedInstruction
theorem witness_step_runs_decoded :
    let s := mem [(0x0600, 0xA9), (0x0601, 0x10)]
    decode [s.read s.pc, s.read (s.pc + 1), s.read (s.pc + 2)] = .ok (.ldaImm 0x10, [0x00]) ∧
      (Instr.ldaImm 0x10).wellFormed = true := ⟨rfl, rfl⟩

-- DecodedBytesAreTheEncoding: one, two and three bytes
theorem witness_decoded_bytes :
    decode [0x18, 0x60] = .ok (.clc, [0x60]) ∧ decode [0xA9, 0x10] = .ok (.ldaImm 0x10, []) ∧
      decode [0xAD, 0x34, 0x12, 0xEA] = .ok (.ldaAbs 0x1234, [0xEA]) := ⟨rfl, rfl, rfl⟩

-- PushAndPullUseTheStackPage: the cell pushed to and another, with S at its lowest value
theorem witness_push : (0x0100 : Addr) = 0x0100 + (0x00 : Byte).setWidth 16 ∧
    (0x01FF : Addr) ≠ 0x0100 + (0x00 : Byte).setWidth 16 := by decide

-- StatusImageAndLoad: two bytes that differ in bits 5 and 4 only
theorem witness_status_bytes : (0x30 : Byte) &&& 0xCF = (0x00 : Byte) &&& 0xCF ∧ (0x30 : Byte) ≠ 0x00 := by decide

-- ZeroPageModesStayInPageZero, IndirectModesReadTheirPointers, RelativeTargetCountsFromTheNextInstruction
theorem witness_modes :
    (Instr.ldxZpy 0x10).operand.mode = .zpy ∧ (Instr.jmpInd 0x02FF).operand.mode = .ind ∧
      (Instr.bcs 0xFE).operand.mode = .rel ∧ (Instr.bcs 0xFE).mnemonic ∈ branches := ⟨rfl, rfl, rfl, by decide⟩

-- AbsoluteModesWrapAt64K, CrossedIsTheLowByteCarry: the last sum inside a page and the first outside it, for each mode
theorem witness_crossed :
    pageCrossed (.abx 0x12F0) { base with x := 0x0F } = false ∧ pageCrossed (.abx 0x12F0) { base with x := 0x10 } = true ∧
    pageCrossed (.aby 0x12F0) { base with y := 0x0F } = false ∧ pageCrossed (.aby 0x12F0) { base with y := 0x10 } = true := by
  decide
theorem witness_crossed_izy :
    let s := mem [(0x0010, 0xF0), (0x0011, 0x12)]
    pageCrossed (.izy 0x10) { s with y := 0x0F } = false ∧ pageCrossed (.izy 0x10) { s with y := 0x10 } = true := by
  decide
theorem witness_no_crossing_mode :
    ∀ op ∈ [Operand.imp, .acc, .imm 0, .zp 0, .zpx 0, .zpy 0, .abs 0, .izx 0, .ind 0, .rel 0],
      op.mode ∉ [Mode.abx, .aby, .izy] := by decide

-- RelativeTargetCountsFromTheNextInstruction: the last displacement forward and the first backward
theorem witness_displacement : (0x7F : Byte).toNat < 128 ∧ ¬ (0x80 : Byte).toNat < 128 := by decide

-- LoadsPutTheOperandInTheRegister, StoresWriteOneCell, AdcAndSbcUpdateTheAccumulator, LogicUpdatesTheAccumulator,
-- ComparesSetCarryNegativeZero, BitTestsTheOperand
theorem witness_load_store_arithmetic :
    (Instr.ldaAbs 0x1234).mnemonic = .LDA ∧ (Instr.ldxImm 0x00).mnemonic = .LDX ∧ (Instr.ldyZp 0x10).mnemonic = .LDY ∧
    (Instr.staAbs 0x1234).mnemonic = .STA ∧ (Instr.stxZp 0x10).mnemonic = .STX ∧ (Instr.styZp 0x10).mnemonic = .STY ∧
    (Instr.adcImm 0x01).mnemonic = .ADC ∧ (Instr.sbcImm 0x01).mnemonic = .SBC ∧
    (Instr.andImm 0x0F).mnemonic = .AND ∧ (Instr.oraImm 0x0F).mnemonic = .ORA ∧ (Instr.eorImm 0x0F).mnemonic = .EOR ∧
    (Instr.cmpImm 0x10).mnemonic = .CMP ∧ (Instr.cpxImm 0x10).mnemonic = .CPX ∧ (Instr.cpyImm 0x10).mnemonic = .CPY ∧
    (Instr.bitZp 0x10).mnemonic = .BIT := by
  refine ⟨?_, ?_, ?_, ?_, ?_, ?_, ?_, ?_, ?_, ?_, ?_, ?_, ?_, ?_, ?_⟩ <;> rfl

-- StoresWriteOneCell: a next state for each register, and a cell that is not the one stored to
theorem witness_stores :
    (∃ t, exec (.staAbs 0x1234) base = .next t) ∧ (∃ t, exec (.stxAbs 0x1234) base = .next t) ∧
      (∃ t, exec (.styAbs 0x1234) base = .next t) ∧ (0x1235 : Addr) ≠ effAddr (.abs 0x1234) base :=
  ⟨⟨_, rfl⟩, ⟨_, rfl⟩, ⟨_, rfl⟩, by decide⟩

-- AddDecimalAddsDecimalDigits, SubtractBorrowsAndKeepsBinaryFlags: the least and the greatest valid operands
theorem witness_bcd : isBcd 0x00 ∧ isBcd 0x99 ∧ ¬ isBcd 0x9A ∧ ¬ isBcd 0xA0 := by
  unfold isBcd
  decide

-- ShiftsMoveOneBit: each instruction in both forms
theorem witness_shifts :
    (∀ i ∈ [Instr.aslAcc, .lsrAcc, .rolAcc, .rorAcc],
      i.mnemonic ∈ [Mnemonic.ASL, .LSR, .ROL, .ROR] ∧ i.operand = .acc) ∧
    (∀ i ∈ [Instr.aslZp 0x10, .lsrZp 0x10, .rolZp 0x10, .rorZp 0x10],
      i.mnemonic ∈ [Mnemonic.ASL, .LSR, .ROL, .ROR] ∧ i.operand ≠ .acc) := by decide

-- IncrementAndDecrementMemory
theorem witness_inc_dec : ∀ i ∈ [Instr.incZp 0x10, .decZp 0x10], i.mnemonic ∈ [Mnemonic.INC, .DEC] := by decide

-- JumpsSetThePc: a pointer whose low byte is FF
theorem witness_jump_wrap : (0x02FF : Addr).toNat % 256 = 255 := by decide

-- JsrPushesItsLastByteAddress: the third byte stands where it was encoded and no push lands on it
theorem witness_jsr :
    let s := mem [(0x0600, 0x20), (0x0601, 0x34), (0x0602, 0x12)]
    s.read (s.pc + 2) = page 0x1234 ∧ s.pc + 2 ≠ stackCell s.sp ∧ s.pc + 2 ≠ stackCell (s.sp - 1) := by decide

-- JsrThirdByteIsReadAfterThePushes: the first push lands on it, the second does, none does
theorem witness_jsr_overlap :
    (let s : State := { base with pc := 0x017E, sp := 0x80 }
     s.pc + 2 = stackCell s.sp) ∧
    (let s : State := { base with pc := 0x017E, sp := 0x81 }
     s.pc + 2 ≠ stackCell s.sp ∧ s.pc + 2 = stackCell (s.sp - 1)) ∧
    (let s : State := { base with pc := 0x017E, sp := 0x82 }
     s.pc + 2 ≠ stackCell s.sp ∧ s.pc + 2 ≠ stackCell (s.sp - 1)) := by decide

-- LoadsPutTheOperandInTheRegister: the modes that have a byte at ea, the zpy mode of LDX and LAX, and both sides of acc
theorem witness_operand_byte :
    (∀ op ∈ [Operand.zp 0x10, .zpx 0x10, .zpy 0x10, .abs 0x1234, .abx 0x1234, .aby 0x1234, .izx 0x10, .izy 0x10],
      op.mode ∉ [Mode.imp, .acc, .imm]) ∧
    (Instr.ldxZpy 0x10).operand = .zpy 0x10 ∧ (Instr.laxZpy 0x10).operand = .zpy 0x10 ∧
    (∀ i ∈ [Instr.aslAcc, .rolAcc, .lsrAcc, .rorAcc],
      i.operand = .acc ∧ i.opcode ∈ [(0x0A : Byte), 0x2A, 0x4A, 0x6A]) ∧
    (Instr.aslZp 0x10).operand ≠ .acc ∧ (Instr.aslZp 0x10).opcode ∉ [(0x0A : Byte), 0x2A, 0x4A, 0x6A] := by decide

-- RtsReturnsPastTheCall, RtiUndoesBrk
theorem witness_call_and_trap :
    (∃ t, exec (.jsrAbs 0x1234) base = .next t) ∧ (∃ t, exec .brk base = .next t) := ⟨⟨_, rfl⟩, ⟨_, rfl⟩⟩

-- BranchesTestOneFlag: each branch taken and not taken
theorem witness_branches_taken :
    (∀ i ∈ [Instr.bpl 2, .bvc 2, .bcc 2, .bne 2], i.mnemonic ∈ branches ∧ branchCondition i.mnemonic base = true) ∧
    (∀ i ∈ [Instr.bmi 2, .bvs 2, .bcs 2, .beq 2], i.mnemonic ∈ branches ∧ branchCondition i.mnemonic base = false) := by
  decide
theorem witness_branches_flags_set :
    let s : State := { base with flagN := true, flagV := true, flagC := true, flagZ := true }
    (∀ i ∈ [Instr.bpl 2, .bvc 2, .bcc 2, .bne 2], branchCondition i.mnemonic s = false) ∧
    (∀ i ∈ [Instr.bmi 2, .bvs 2, .bcs 2, .beq 2], branchCondition i.mnemonic s = true) := by decide
-- ... and a target on the page of the next instruction, and one on another page
theorem witness_branch_pages :
    page (effAddr (.rel 0x7F) base) = page (base.pc + 2) ∧ page (effAddr (.rel 0x80) base) ≠ page (base.pc + 2) := by
  decide

-- NopsOnlyAdvance: the documented one, and the form with the penalty on both sides of the page
theorem witness_nop :
    Instr.nop.mnemonic = .NOP ∧ (Instr.nopAbx1C 0x12F0).mnemonic = .NOP ∧
    (Instr.nopAbx1C 0x12F0).operand.mode = .abx ∧
    pageCrossed (Instr.nopAbx1C 0x12F0).operand { base with x := 0x0F } = false ∧
    pageCrossed (Instr.nopAbx1C 0x12F0).operand { base with x := 0x10 } = true := by decide

-- SkipModeMakesThemNops
theorem witness_skip :
    (∀ i ∈ [Instr.sloZp 0x10, .jam02, .aneImm 0x0F, .nopZp04 0x10],
      i.row.documented = false ∧ i.row.unstableStore = false) ∧ skipping.variant.undocMode = .skip := by decide

-- ShiftAndLogicCombinations, RotateAddAndIncrementSubtract, SaxStoresAndLaxLoadsBoth, ImmediateCombinations,
-- ArrAndUsbcUseTheAdder, AneAndLxaUseTheUnknownConstants
theorem witness_undocumented :
    (Instr.sloZp 0x10).mnemonic = .SLO ∧ (Instr.rlaZp 0x10).mnemonic = .RLA ∧ (Instr.sreZp 0x10).mnemonic = .SRE ∧
    (Instr.rraZp 0x10).mnemonic = .RRA ∧ (Instr.dcpZp 0x10).mnemonic = .DCP ∧ (Instr.iscZp 0x10).mnemonic = .ISC ∧
    (Instr.saxZp 0x10).mnemonic = .SAX ∧ (Instr.laxZp 0x10).mnemonic = .LAX ∧
    (Instr.ancImm0B 0x80).mnemonic = .ANC ∧ (Instr.alrImm 0x03).mnemonic = .ALR ∧ (Instr.sbxImm 0x01).mnemonic = .SBX ∧
    (Instr.lasAby 0x12FF).mnemonic = .LAS ∧ base.variant.undocMode = .full := by
  refine ⟨?_, ?_, ?_, ?_, ?_, ?_, ?_, ?_, ?_, ?_, ?_, ?_, ?_⟩ <;> rfl
theorem witness_decimal_mode :
    (let s : State := { base with flagD := true }
     s.flagD = true ∧ s.variant.decimalEnabled = true ∧ s.variant.undocMode = .full) ∧
    ¬ (base.flagD = true ∧ base.variant.decimalEnabled = true) := by decide
theorem witness_ane_lxa : ({ base with a := 0xFF } : State).a = 0xFF ∧ base.variant.undocMode = .full := by decide

-- JamLoopsOnItself
theorem witness_jam :
    let s := mem [(0x0600, 0x02)]
    (opcodeRow (s.read s.pc)).mnemonic = .JAM ∧ s.variant.undocMode = .full ∧ Instr.jam02.mnemonic = .JAM := by decide

-- UnstableStoresAndTheLatchedByte: each mnemonic, crossed and not crossed
theorem witness_unstable :
    (Instr.shaAby 0x12F0).mnemonic = .SHA ∧ (Instr.shxAby 0x12F0).mnemonic = .SHX ∧
    (Instr.shyAbx 0x12F0).mnemonic = .SHY ∧ (Instr.tasAby 0x12F0).mnemonic = .TAS ∧
    pageCrossed (Instr.shaAby 0x12F0).operand { base with y := 0x0F } = false ∧
    pageCrossed (Instr.shaAby 0x12F0).operand { base with y := 0x10 } = true := by decide

-- LatchedByteIsBasePagePlusOne: one target, reached from its own page and from the page below, X all ones and zero
theorem witness_latched_next (x y : Byte) (w : Addr) :
    ∃ t, exec (.shxAby w) { base with x := x, y := y } = .next t := ⟨_, rfl⟩
theorem witness_latched :
    ∀ x ∈ [(0xFF : Byte), 0x00],
      let s : State := { base with x := x }
      let s' : State := { base with x := x, y := 0x10 }
      effAddr (.aby 0x1300) s = effAddr (.aby 0x12F0) s' ∧ pageCrossed (.aby 0x1300) s = false ∧
        pageCrossed (.aby 0x12F0) s' = true := by decide

-- DecimalVariantsAgreeElsewhere: an instruction with no decimal arithmetic; one with it and D = 0
theorem witness_decimal_variants :
    (Instr.ldaImm 0x10).mnemonic ∉ decimalInstructions ∧ (Instr.adcImm 0x10).mnemonic ∈ decimalInstructions ∧
      base.flagD = false := by decide

-- UnstableStoresAreVariantIndependent: the five, and a documented opcode
theorem witness_variant_independent :
    (∀ i ∈ [Instr.shaIzy 0x10, .shaAby 0x1234, .shxAby 0x1234, .shyAbx 0x1234, .tasAby 0x1234],
      i.opcode ∈ [(0x93 : Byte), 0x9F, 0x9E, 0x9C, 0x9B]) ∧ (Instr.brk).row.documented = true := by decide

-- CostOfEveryInstruction, PcAdvancesByTheLength, RegisterFrame, FlagFrame: a next state on each side of each premise
theorem witness_cost :
    (∃ t, exec (.ldaAbx 0x12F0) { base with x := 0x10 } = .next t) ∧ (Instr.ldaAbx 0x12F0).mnemonic ∉ branches ∧
      (∃ t, exec (.bne 0x80) base = .next t) ∧ (Instr.bne 0x80).mnemonic ∈ branches :=
  ⟨⟨_, rfl⟩, by decide, ⟨_, rfl⟩, by decide⟩
theorem witness_pc :
    (∃ t, exec (.ldaAbs 0x1234) base = .next t) ∧ (Instr.ldaAbs 0x1234).mnemonic ∉ controlTransfers ∧
      (∃ t, exec .jam02 skipping = .next t) ∧ Instr.jam02.mnemonic = .JAM ∧ skipping.variant.undocMode = .skip ∧
      ({ base with pc := 0xFFFF } : State).pc = 0xFFFF :=
  ⟨⟨_, rfl⟩, by decide, ⟨_, rfl⟩, rfl, rfl, rfl⟩
theorem witness_frames :
    (∃ t, exec .nop base = .next t) ∧
    (∀ l ∈ [writersOfA, writersOfX, writersOfY, writersOfS, writersOfC, writersOfNZ, writersOfI, writersOfD, writersOfV],
      Instr.nop.mnemonic ∉ l) ∧
    (Instr.aslZp 0x10).mnemonic ∉ writersOfA ∧
      ¬ ((Instr.aslZp 0x10).mnemonic ∈ shifts ∧ (Instr.aslZp 0x10).operand = .acc) :=
  ⟨⟨_, rfl⟩, by decide, by decide, by decide⟩

-- MemoryFrame: a cell outside those stored to, for each shape of storing
theorem witness_memory_frame :
    (∃ t, exec .brk base = .next t) ∧ (0x01FA : Addr) ∉ storedCells .brk base ∧
    (∃ t, exec (.staAbs 0x1234) base = .next t) ∧ (0x1235 : Addr) ∉ storedCells (.staAbs 0x1234) base ∧
    (∃ t, exec .aslAcc base = .next t) ∧ (0x0000 : Addr) ∉ storedCells .aslAcc base :=
  ⟨⟨_, rfl⟩, by decide, ⟨_, rfl⟩, by decide, ⟨_, rfl⟩, by decide⟩

-- StepKeepsTheMemoryCanonical: a state with cells listed, and a step from it
theorem witness_invariant :
    MemoryCanonical (mem [(0x0600, 0xE6), (0x0601, 0x10), (0x0010, 0xFF)]) ∧
      ∃ t, step (mem [(0x0600, 0xE6), (0x0601, 0x10), (0x0010, 0xFF)]) = .next t :=
  ⟨by unfold MemoryCanonical; decide, ⟨_, rfl⟩⟩

-- SeedThenInspect: a seed past FFFF, a cell that is none of its own, an index inside a range
theorem witness_seed :
    [(0x11 : Byte), 0x22].length ≤ 65536 ∧
    (∀ k, k < [(0x11 : Byte), 0x22].length → (0x0001 : Addr) ≠ 0xFFFF + BitVec.ofNat 16 k) ∧ 1 < 2 := by decide

-- HostRegisterAccess: a set that answers a state, for each register that can be set
theorem witness_set_register :
    ∀ r ∈ [HostReg.A, .X, .Y, .S, .PC, .status], ∃ t, base.setReg r 0x1FF = some t := by
  intro r hr
  simp only [List.mem_cons, List.not_mem_nil, or_false] at hr
  rcases hr with rfl | rfl | rfl | rfl | rfl | rfl <;> exact ⟨_, rfl⟩

-- RunMeetsItsBudget: both budgets the clauses part, and a smaller number of steps
theorem witness_run :
    (0 : Nat) = 0 ∧ 1 ≤ (1 : Nat) ∧ (∃ t, run 1 base = .next t) ∧ (0 : Nat) < 1 :=
  ⟨rfl, Nat.le_refl 1, ⟨_, rfl⟩, Nat.one_pos⟩

end Sys2Proof.Tests
end

section
/-! Proofs for the scope family: the default ending with PC as a number (R12), the accumulator mode (R101), the loads
(R130 to R132). -/

namespace Sys2Proof

/-! ## The accumulator mode -/

/-- The accumulator operand is the one of the accumulator mode. -/
theorem Operand.mode_eq_acc {op : Operand} : op.mode = .acc ↔ op = .acc := by
  cases op <;> simp [Operand.mode]

/-- The rows of the accumulator mode. -/
theorem opcodeRow_mode_eq_acc (b : Byte) : (opcodeRow b).mode = .acc ↔ b ∈ [0x0A, 0x2A, 0x4A, 0x6A] := by
  have h : ∀ k : Fin 256,
      (opcodeRow (BitVec.ofFin k)).mode = .acc ↔ (BitVec.ofFin k : Byte) ∈ [0x0A, 0x2A, 0x4A, 0x6A] := by
    decide +kernel
  exact h b.toFin

/-- The instructions in the accumulator mode, by opcode. -/
theorem Instr.operand_eq_acc (i : Instr) : i.operand = .acc ↔ i.opcode ∈ [0x0A, 0x2A, 0x4A, 0x6A] := by
  rw [← Operand.mode_eq_acc, i.mode_eq, Instr.row, opcodeRow_mode_eq_acc]

end Sys2Proof

namespace Sys2Proof.Machine

open Sys2Proof.Safety

/-! ## The default ending and the operand byte -/

/-- The default ending with PC counted from `pc0` modulo 65536 (R12). -/
theorem defaultEnding_eq (i : Instr) (s t : State) :
    defaultEnding i s t = { t with
      pc := BitVec.ofNat 16 (s.pc.toNat + i.operand.length)
      cycles := s.cycles + i.row.cycles +
        (if i.row.pageCrossPenalty = true ∧ pageCrossed i.operand s = true then 1 else 0) } := by
  rw [defaultEnding, BitVec.ofNat_add, BitVec.ofNat_toNat, BitVec.setWidth_eq]

/-- In every mode that has an `ea`, `M` is the byte there: `operandByte_memory` by the mode alone. -/
theorem operandByte_of_mode {op : Operand} (h : op.mode ∉ [Mode.imp, .acc, .imm]) (s : State) :
    operandByte op s = s.read (effAddr op s) := by
  simp only [List.mem_cons, List.not_mem_nil, or_false, not_or] at h
  obtain ⟨-, hacc, himm⟩ := h
  exact operandByte_memory himm (fun e => hacc (congrArg Operand.mode e)) s

/-! ## The loads -/

/-- What every LDA does (R130). -/
theorem exec_of_lda {i : Instr} (h : i.mnemonic = .LDA) (s : State) :
    exec i s = .next (defaultEnding i s (s.loadA (operandByte i.operand s))) :=
  (exec_of_mnemonic h s).trans (complete_eq_defaultEnding i s _)

/-- What every LDX does (R131). -/
theorem exec_of_ldx {i : Instr} (h : i.mnemonic = .LDX) (s : State) :
    exec i s = .next (defaultEnding i s (s.loadX (operandByte i.operand s))) :=
  (exec_of_mnemonic h s).trans (complete_eq_defaultEnding i s _)

/-- What every LDY does (R132). -/
theorem exec_of_ldy {i : Instr} (h : i.mnemonic = .LDY) (s : State) :
    exec i s = .next (defaultEnding i s (s.loadY (operandByte i.operand s))) :=
  (exec_of_mnemonic h s).trans (complete_eq_defaultEnding i s _)

set_option maxRecDepth 100000 in
/-- Settles O13: each load is its register's `load` on `M` with the default ending (`exec_of_lda` and its two
siblings); the encodings are read off the opcode map. -/
theorem loadsPutTheOperandInTheRegister : Obligations.LoadsPutTheOperandInTheRegister := by
  refine ⟨⟨by decide, by decide, by decide⟩, fun i s => ⟨fun h => ?lda, fun h => ?ldx, fun h => ?ldy⟩,
    fun op s h => operandByte_of_mode h s, fun d s => ⟨rfl, rfl, rfl, rfl⟩, fun s v => ⟨rfl, rfl, rfl, rfl, rfl⟩,
    Instr.operand_eq_acc, defaultEnding_eq⟩
  case lda => rw [exec_of_lda h, State.loadA_eq]
  case ldx => rw [exec_of_ldx h, State.loadX_eq]
  case ldy => rw [exec_of_ldy h, State.loadY_eq]

end Sys2Proof.Machine
end

section
/-! Proofs for the state family: the stack page (R24). -/

namespace Sys2Proof.Machine

open Sys2Proof.Safety

/-! ## The stack page -/

/-- The cell of a stack pointer as a number: an offset into page 1 (R23). -/
theorem toNat_stackCell (sp : Byte) : (stackCell sp).toNat = 256 + sp.toNat := by
  rw [stackCell_eq, stackAddr, toNat_joinBytes]
  rfl

/-- `push` in the rule's words: the write at `0x0100 + S`, then `S - 1` modulo 256 (R24). -/
theorem State.push_eq_ofNat (s : State) (v : Byte) :
    s.push v = { s.write (0x0100 + s.sp.setWidth 16) v with sp := BitVec.ofNat 8 (s.sp.toNat + 255) } := by
  rw [State.push_eq, stackAddr_eq, sub_one_eq]

/-- `pull` leaves `S + 1` modulo 256 and nothing else changed (R24). -/
theorem State.pop_eq_ofNat (s : State) : s.pop = { s with sp := BitVec.ofNat 8 (s.sp.toNat + 1) } := by
  rw [State.pop, State.setSp, add_one_eq]

/-- `pull` gives the byte at `0x0100` plus the incremented pointer, the sum wrapping before it is widened (R24). -/
theorem State.pulled_eq_ofNat (s : State) :
    s.pulled = s.read (0x0100 + (BitVec.ofNat 8 (s.sp.toNat + 1)).setWidth 16) := by
  rw [State.pulled, stackAddr_eq, add_one_eq]

/-- Settles O6: the cell is R23's (`stackAddr_eq`) and the pointer moves modulo 256 (`add_one_eq`, `sub_one_eq`). -/
theorem pushAndPullUseTheStackPage : Obligations.PushAndPullUseTheStackPage := by
  refine ⟨State.push_eq_ofNat, fun s v p => ?read, fun s => ⟨s.pop_eq_ofNat, s.pulled_eq_ofNat⟩, toNat_stackCell⟩
  case read => rw [State.read_push, stackAddr_eq]

end Sys2Proof.Machine
end

section
/-! Proofs for the encoding family: the opcode byte alone selects the instruction, its row and its length (R70 to R75,
R77). -/

namespace Sys2Proof

/-! ## What a format and a mode make of the operand bytes -/

/-- The instruction of a format with the operand bytes `b1`, or `b1` and then `b2`, as far as the format has any (R72). -/
def Format.instr : Format → Byte → Byte → Instr
  | .f1 i, _, _ => i
  | .f2 mk, b1, _ => mk b1
  | .f3 mk, b1, b2 => mk (joinBytes b2 b1)

/-- The length in bytes of the instructions of a format (R72). -/
def Format.length : Format → Nat
  | .f1 _ => 1
  | .f2 _ => 2
  | .f3 _ => 3

/-- The operand of a mode with the operand bytes `b1`, or `b1` and then `b2`, as far as the mode has any (R71 to R73). -/
def Mode.operand (m : Mode) (b1 b2 : Byte) : Operand :=
  match m with
  | .imp => .imp
  | .acc => .acc
  | .imm => .imm b1
  | .zp => .zp b1
  | .zpx => .zpx b1
  | .zpy => .zpy b1
  | .abs => .abs (joinBytes b2 b1)
  | .abx => .abx (joinBytes b2 b1)
  | .aby => .aby (joinBytes b2 b1)
  | .izx => .izx b1
  | .izy => .izy b1
  | .ind => .ind (joinBytes b2 b1)
  | .rel => .rel b1

/-- An instruction has one, two or three bytes (R70). -/
theorem Mode.length_bounds (m : Mode) : 1 ≤ m.length ∧ m.length ≤ 3 := by
  cases m <;> decide

/-- The bytes of a mode's operand are those it was made of, as many as its length leaves after the opcode (R72, R73). -/
theorem Mode.cons_bytes_operand (m : Mode) (b0 b1 b2 : Byte) :
    b0 :: (m.operand b1 b2).bytes = [b0, b1, b2].take m.length := by
  cases m <;> simp [Mode.operand, Operand.bytes, Mode.length]

/-- The decoder makes the instruction of the opcode byte's format. -/
theorem decodeBytes_eq_instr (b0 b1 b2 : Byte) : decodeBytes b0 b1 b2 = (formatOf b0).instr b1 b2 := by
  rw [decodeBytes]
  cases formatOf b0 <;> rfl

/-- On three bytes or more `decode` refuses nothing: it gives `decodeBytes` of the first three and drops as many bytes as
the format says (R70, R77). -/
theorem decode_cons_cons_cons (b0 b1 b2 : Byte) (rest : List Byte) :
    decode (b0 :: b1 :: b2 :: rest) =
      .ok (decodeBytes b0 b1 b2, (b0 :: b1 :: b2 :: rest).drop (formatOf b0).length) := by
  simp only [decode, decodeBytes]
  cases formatOf b0 <;> rfl

/-! ## The decoder's map beside the opcode map

Each fact about all 256 opcodes walks once through the maps, place by place, whatever the operand bytes are. -/

set_option maxRecDepth 20000 in
/-- The place of a format in the map is the opcode of the instructions it makes (R75). -/
theorem map_opcode_formatMap (b1 b2 : Byte) :
    formatMap.map (fun f => (f.instr b1 b2).opcode) = (List.range 256).map (BitVec.ofNat 8) := (rfl)

set_option maxRecDepth 20000 in
/-- Each format reads the operand in the mode of the row at its place (R71, R75). -/
theorem map_operand_formatMap (b1 b2 : Byte) :
    formatMap.map (fun f => (f.instr b1 b2).operand) = opcodeMap.map (fun r => r.mode.operand b1 b2) := (rfl)

set_option maxRecDepth 20000 in
/-- Each format has the length of the row at its place (R71, R72). -/
theorem map_length_formatMap : formatMap.map Format.length = opcodeMap.map (fun r => r.mode.length) := (rfl)

/-- The row of an opcode byte is the one at its place. -/
theorem getElem?_opcodeMap (b : Byte) : opcodeMap[b.toNat]? = some (opcodeRow b) := by
  have h : b.toNat < opcodeMap.length := opcodeMap_length ▸ b.isLt
  rw [opcodeRow, List.getD_eq_getElem _ _ h, List.getElem?_eq_getElem h]

/-- The format of an opcode byte is the one at its place. -/
theorem getElem?_formatMap (b : Byte) : formatMap[b.toNat]? = some (formatOf b) := by
  have hlen : formatMap.length = 256 := by
    simpa [opcodeMap_length] using congrArg List.length map_length_formatMap
  have h : b.toNat < formatMap.length := hlen ▸ b.isLt
  rw [formatOf, List.getD_eq_getElem _ _ h, List.getElem?_eq_getElem h]

/-- What agrees all along the two maps agrees at an opcode byte. -/
theorem formatOf_eq_opcodeRow {α : Type} {f : Format → α} {g : Row → α} (h : formatMap.map f = opcodeMap.map g)
    (b : Byte) : f (formatOf b) = g (opcodeRow b) := by
  simpa [getElem?_formatMap, getElem?_opcodeMap] using congrArg (·[b.toNat]?) h

/-! ## The instruction decoded -/

/-- The decoder gives an instruction of the opcode byte it reads, whatever bytes follow (R70, R72). -/
@[simp] theorem opcode_decodeBytes (b0 b1 b2 : Byte) : (decodeBytes b0 b1 b2).opcode = b0 := by
  have h := congrArg (·[b0.toNat]?) (map_opcode_formatMap b1 b2)
  rw [decodeBytes_eq_instr]
  simpa [getElem?_formatMap, b0.isLt] using h

/-- The decoder reads the operand in the mode of the opcode byte's row (R71, R74). -/
theorem operand_decodeBytes (b0 b1 b2 : Byte) :
    (decodeBytes b0 b1 b2).operand = (opcodeRow b0).mode.operand b1 b2 := by
  rw [decodeBytes_eq_instr]
  exact formatOf_eq_opcodeRow (map_operand_formatMap b1 b2) b0

/-- The descriptor of the instruction decoded is the one of the opcode byte (R74). -/
@[simp] theorem row_decodeBytes (b0 b1 b2 : Byte) : (decodeBytes b0 b1 b2).row = opcodeRow b0 := by
  rw [Instr.row, opcode_decodeBytes]

/-- The bytes of the instruction decoded are the ones read, up to the length of the opcode byte's row (R70). -/
theorem encode_decodeBytes (b0 b1 b2 : Byte) :
    encode (decodeBytes b0 b1 b2) = [b0, b1, b2].take (opcodeRow b0).mode.length := by
  rw [encode, opcode_decodeBytes, operand_decodeBytes, Mode.cons_bytes_operand]

/-- The format of an opcode byte has the length of its row (R71, R72). -/
theorem length_formatOf (b : Byte) : (formatOf b).length = (opcodeRow b).mode.length :=
  formatOf_eq_opcodeRow map_length_formatMap b

/-- Settles O4: the three bytes decode to `decodeBytes` of them (`decode_cons_cons_cons`), whose row and length are those
of the opcode byte (`row_decodeBytes`, `encode_decodeBytes`). -/
theorem everyOpcodeByteDecodes : Obligations.EveryOpcodeByteDecodes := by
  intro b0 b1 b2
  have hdecode := decode_cons_cons_cons b0 b1 b2 []
  rw [length_formatOf] at hdecode
  have hmode : (decodeBytes b0 b1 b2).operand.mode = (opcodeRow b0).mode := by
    rw [Instr.mode_eq, row_decodeBytes]
  obtain ⟨hpos, hle⟩ := (opcodeRow b0).mode.length_bounds
  exact ⟨_, _, hdecode, opcode_decodeBytes b0 b1 b2, row_decodeBytes b0 b1 b2, hmode, encode_decodeBytes b0 b1 b2, rfl,
    hpos, hle⟩

end Sys2Proof
end

section
/-! Proofs for the addressing-mode family: the zero-page, absolute, indirect and relative modes as numbers, and the page
comparison (R103 to R113, R115). -/

namespace Sys2Proof

/-! ## The mnemonics of a mode -/

set_option maxRecDepth 20000 in
/-- The mnemonics with a form in the mode `zpy` (R105). -/
theorem Instr.mnemonic_of_mode_zpy (i : Instr) (h : i.operand.mode = .zpy) :
    i.mnemonic ∈ [Mnemonic.LDX, .STX, .LAX, .SAX] :=
  Instr.row_of_all (P := fun r => r.mode = .zpy → r.mnemonic ∈ [Mnemonic.LDX, .STX, .LAX, .SAX]) (by decide) i
    (i.mode_eq ▸ h)

set_option maxRecDepth 20000 in
/-- JMP is the one mnemonic with a form in the mode `ind` (R111). -/
theorem Instr.mnemonic_of_mode_ind (i : Instr) (h : i.operand.mode = .ind) : i.mnemonic = .JMP :=
  Instr.row_of_all (P := fun r => r.mode = .ind → r.mnemonic = .JMP) (by decide) i (i.mode_eq ▸ h)

set_option maxRecDepth 20000 in
/-- The branches are the instructions in the mode `rel` (R112, R194). -/
theorem Instr.mode_eq_rel_iff (i : Instr) : i.operand.mode = .rel ↔ i.mnemonic ∈ Safety.branches := by
  rw [i.mode_eq]
  exact Instr.row_of_all (P := fun r => r.mode = .rel ↔ r.mnemonic ∈ Safety.branches) (by decide) i

end Sys2Proof

namespace Sys2Proof.Machine

open Sys2Proof.Safety

/-! ## Addresses as numbers -/

@[simp] theorem toNat_zeroPage (d : Byte) : (zeroPage d).toNat = d.toNat := by
  rw [zeroPage, toNat_joinBytes, show (0x00 : Byte).toNat = 0 from rfl, Nat.zero_mul, Nat.zero_add]

theorem zeroPage_eq_ofNat (d : Byte) : zeroPage d = BitVec.ofNat 16 d.toNat := by
  rw [← toNat_zeroPage, BitVec.ofNat_toNat, BitVec.setWidth_eq]

/-- The index is added unsigned, modulo 65536 (R107, R115). -/
@[simp] theorem toNat_indexed (w : Addr) (index : Byte) :
    (indexed w index).toNat = (w.toNat + index.toNat) % 65536 := by
  rw [indexed, BitVec.toNat_add, BitVec.toNat_setWidth_of_le (by decide)]

/-- Where the two bytes of a pointer in page 0 stand (R109, R110). -/
theorem zeroPagePointer_eq_ofNat (d : Byte) (s : State) :
    zeroPagePointer d s =
      joinBytes (s.read (BitVec.ofNat 16 ((d.toNat + 1) % 256))) (s.read (BitVec.ofNat 16 d.toNat)) := by
  rw [zeroPagePointer, zeroPage_eq_ofNat, zeroPage_eq_ofNat, BitVec.toNat_add, show (1 : Byte).toNat = 1 from rfl]

/-- Where the two bytes of the pointer of `izx` stand: X is added before the wrap (R109). -/
theorem zeroPagePointer_add_eq_ofNat (d x : Byte) (s : State) :
    zeroPagePointer (d + x) s =
      joinBytes (s.read (BitVec.ofNat 16 ((d.toNat + x.toNat + 1) % 256)))
        (s.read (BitVec.ofNat 16 ((d.toNat + x.toNat) % 256))) := by
  rw [zeroPagePointer_eq_ofNat, BitVec.toNat_add, Nat.mod_add_mod]

/-- Where the two bytes of the pointer of JMP indirect stand (R111). -/
theorem pagePointer_eq_ofNat (w : Addr) (s : State) :
    pagePointer w s =
      joinBytes (s.read (BitVec.ofNat 16 (w.toNat / 256 * 256 + (w.toNat + 1) % 256))) (s.read w) := by
  have haddr : (joinBytes (page w) (lowByte w + 1)).toNat = w.toNat / 256 * 256 + (w.toNat + 1) % 256 := by
    rw [toNat_joinBytes, toNat_page, BitVec.toNat_add, toNat_lowByte, show (1 : Byte).toNat = 1 from rfl,
      Nat.mod_add_mod]
  rw [pagePointer, ← haddr, BitVec.ofNat_toNat, BitVec.setWidth_eq]

/-- The target of a branch as an integer: the displacement is signed, the sum wraps (R112). -/
theorem toNat_branchTarget (d : Byte) (s : State) :
    ((branchTarget d s).toNat : Int) =
      ((s.pc.toNat : Int) + 2 + (if d.toNat < 128 then (d.toNat : Int) else (d.toNat : Int) - 256)) % 65536 := by
  have hd := d.isLt
  have hmsb : d.msb = decide (128 ≤ d.toNat) := BitVec.msb_eq_decide d
  have hext : (d.signExtend 16).toNat = d.toNat + if 128 ≤ d.toNat then 65280 else 0 := by
    rw [BitVec.toNat_signExtend, hmsb, BitVec.toNat_setWidth_of_le (by decide)]
    simp
  rw [branchTarget, branchNext, BitVec.toNat_add, BitVec.toNat_add, hext, show (2 : Addr).toNat = 2 from rfl]
  split <;> split <;> omega

/-- Displacement `0xFE` is -2: back over the branch itself (R112). -/
theorem branchTarget_self (s : State) : branchTarget 0xFE s = s.pc := by
  have hback : (2 : Addr) + (0xFE : Byte).signExtend 16 = 0 := by decide
  rw [branchTarget, branchNext, BitVec.add_assoc, hback, add_zero]

/-! ## The page comparison -/

/-- Pages compared as numbers. -/
theorem page_ne_page_iff (a b : Addr) : page a ≠ page b ↔ a.toNat / 256 ≠ b.toNat / 256 := by
  rw [Ne, ← BitVec.toNat_inj, toNat_page, toNat_page]

/-- An index moves a word to another page exactly when the addition to the low byte carries; past `0xFFFF` too (R113). -/
theorem page_ne_page_indexed_iff (w : Addr) (index : Byte) :
    page w ≠ page (indexed w index) ↔ w.toNat % 256 + index.toNat > 255 := by
  have hw := w.isLt
  have hi := index.isLt
  rw [page_ne_page_iff, toNat_indexed]
  omega

theorem pageCrossed_abx (w : Addr) (s : State) : pageCrossed (.abx w) s = true ↔ page w ≠ page (indexed w s.x) :=
  decide_eq_true_iff

theorem pageCrossed_aby (w : Addr) (s : State) : pageCrossed (.aby w) s = true ↔ page w ≠ page (indexed w s.y) :=
  decide_eq_true_iff

theorem pageCrossed_izy (d : Byte) (s : State) :
    pageCrossed (.izy d) s = true ↔ page (zeroPagePointer d s) ≠ page (indexed (zeroPagePointer d s) s.y) :=
  decide_eq_true_iff

/-- Only the three modes that index a 16-bit base can cross a page (R113). -/
theorem pageCrossed_of_mode {op : Operand} (h : op.mode ∉ [Mode.abx, .aby, .izy]) (s : State) :
    pageCrossed op s = false := by
  cases op with
  | abx | aby | izy => simp [Operand.mode] at h
  | _ => rfl

/-! ## The statements -/

/-- Settles O8: an address in page 0 is its byte (`toNat_zeroPage`), and the index is added to the byte. -/
theorem zeroPageModesStayInPageZero : Obligations.ZeroPageModesStayInPageZero := by
  refine ⟨fun d s => ⟨toNat_zeroPage d, ?zpx, ?zpy, rfl, rfl, rfl, rfl, rfl, rfl⟩, Instr.mnemonic_of_mode_zpy⟩
  case zpx => rw [effAddr, toNat_zeroPage, BitVec.toNat_add]
  case zpy => rw [effAddr, toNat_zeroPage, BitVec.toNat_add]

/-- Settles O9: the three sums are `toNat_indexed`, the crossings the page comparison in numbers. -/
theorem absoluteModesWrapAt64K : Obligations.AbsoluteModesWrapAt64K := by
  refine ⟨fun lo hi s => ⟨toNat_joinBytes hi lo, ?bytes, rfl⟩,
    fun w s => ⟨toNat_indexed w s.x, toNat_indexed w s.y, ?abx, ?aby, rfl, rfl, rfl⟩,
    fun d s => toNat_indexed (zeroPagePointer d s) s.y⟩
  case bytes => rw [Operand.bytes, lowByte_joinBytes, page_joinBytes]
  case abx => rw [pageCrossed_abx, page_ne_page_iff, toNat_indexed]
  case aby => rw [pageCrossed_aby, page_ne_page_iff, toNat_indexed]

/-- Settles O10: each pointer is read where its `_eq_ofNat` lemma says; `izy` then adds Y by `toNat_indexed`. -/
theorem indirectModesReadTheirPointers : Obligations.IndirectModesReadTheirPointers := by
  refine ⟨fun d s => ⟨zeroPagePointer_add_eq_ofNat d s.x s, rfl, rfl⟩, fun d s => ?izy,
    fun w s => ⟨pagePointer_eq_ofNat w s, rfl, rfl⟩, Instr.mnemonic_of_mode_ind⟩
  case izy =>
    rw [← zeroPagePointer_eq_ofNat, pageCrossed_izy, page_ne_page_iff, toNat_indexed]
    exact ⟨toNat_indexed _ _, Iff.rfl, rfl⟩

/-- Settles O11: `crossed` is the page comparison by definition, and that is the carry by `page_ne_page_indexed_iff`. -/
theorem crossedIsTheLowByteCarry : Obligations.CrossedIsTheLowByteCarry :=
  ⟨fun w s => ⟨pageCrossed_abx w s, (pageCrossed_abx w s).trans (page_ne_page_indexed_iff w s.x),
    pageCrossed_aby w s, (pageCrossed_aby w s).trans (page_ne_page_indexed_iff w s.y)⟩,
   fun d s => ⟨pageCrossed_izy d s, (pageCrossed_izy d s).trans (page_ne_page_indexed_iff _ s.y)⟩,
   fun _ s h => pageCrossed_of_mode h s⟩

/-- Settles O12: the target is `toNat_branchTarget`; which rows have the mode is read off the opcode map. -/
theorem relativeTargetCountsFromTheNextInstruction : Obligations.RelativeTargetCountsFromTheNextInstruction :=
  ⟨fun d s => ⟨toNat_branchTarget d s, rfl⟩, branchTarget_self, Instr.mode_eq_rel_iff⟩

end Sys2Proof.Machine
end

section
/-! Proofs for the load, store and transfer family: the stores (R133 to R135) and the transfers (R136 to R141). -/

namespace Sys2Proof.Machine

open Sys2Proof.Safety

/-! ## The default ending, field by field -/

/-- The default ending leaves memory to the instruction (R12). -/
@[simp] theorem read_defaultEnding (i : Instr) (s t : State) (p : Addr) :
    (defaultEnding i s t).read p = t.read p := rfl

/-- Without the page-cross penalty the default ending adds the base count (R114). -/
theorem defaultEnding_cycles_of_no_penalty {i : Instr} (h : i.row.pageCrossPenalty = false) (s t : State) :
    (defaultEnding i s t).cycles = s.cycles + i.row.cycles := by
  simp [defaultEnding, h]

/-- The default ending of a one-byte instruction of two cycles. -/
theorem complete_docRow_imp_two (m : Mnemonic) (s t : State) :
    complete (docRow m .imp 2) .imp s t = .next { t with pc := s.pc + 1, cycles := s.cycles + 2 } := rfl

/-! ## The stores -/

/-- The mnemonics of R133 to R135. -/
def registerStores : List Mnemonic := [.STA, .STX, .STY]

/-- The register a store writes to memory (R133 to R135); no other mnemonic uses this value. -/
def storedRegister (m : Mnemonic) (s : State) : Byte :=
  match m with
  | .STA => s.a
  | .STX => s.x
  | .STY => s.y
  | _ => 0

/-- What every store does: its register goes to the cell at `ea` (R133 to R135). -/
theorem exec_of_store {i : Instr} (h : i.mnemonic ∈ registerStores) (s : State) :
    exec i s = .next (defaultEnding i s (s.write (effAddr i.operand s) (storedRegister i.mnemonic s))) := by
  rw [exec_eq_perform, ← complete_eq_defaultEnding]
  simp only [registerStores, List.mem_cons, List.not_mem_nil, or_false] at h
  obtain hsta | hstx | hsty := h
  · rw [hsta]; rfl
  · rw [hstx]; rfl
  · rw [hsty]; rfl

set_option maxRecDepth 20000 in
/-- No row of a store has the page-cross penalty (R133 to R135). -/
theorem Instr.no_penalty_of_store {i : Instr} : i.mnemonic ∈ registerStores → i.row.pageCrossPenalty = false :=
  Instr.row_of_all (P := fun r => r.mnemonic ∈ registerStores → r.pageCrossPenalty = false) (by decide) i

/-- What a store leaves: the base count added, every cell but the one at `ea` as it was, and there the register. -/
theorem exec_store_leaves {i : Instr} (h : i.mnemonic ∈ registerStores) {s t : State} (ht : exec i s = .next t) :
    t.cycles = s.cycles + i.row.cycles ∧
    (∀ p : Addr, p ≠ effAddr i.operand s → t.read p = s.read p) ∧
    t.read (effAddr i.operand s) = storedRegister i.mnemonic s := by
  rw [exec_of_store h, Host.Outcome.next.injEq] at ht
  subst ht
  exact ⟨defaultEnding_cycles_of_no_penalty (Instr.no_penalty_of_store h) s _,
    fun _ hp => State.read_write_other s _ hp, State.read_write_self s _ _⟩

set_option maxRecDepth 100000 in
/-- Settles O14: each store writes its register with the default ending (`exec_of_store`), and what that leaves is
`exec_store_leaves`; the encodings are read off the opcode map. -/
theorem storesWriteOneCell : Obligations.StoresWriteOneCell := by
  refine ⟨⟨by decide, by decide, by decide⟩, fun i s => ⟨fun h => ?sta, fun h => ?stx, fun h => ?sty,
    fun hstore t ht => ?leaves⟩⟩
  case sta => rw [exec_of_store (by simp [registerStores, h]), h, storedRegister]
  case stx => rw [exec_of_store (by simp [registerStores, h]), h, storedRegister]
  case sty => rw [exec_of_store (by simp [registerStores, h]), h, storedRegister]
  case leaves =>
    obtain ⟨hcycles, hframe, hcell⟩ := exec_store_leaves hstore ht
    refine ⟨hcycles, hframe, fun h => ?_, fun h => ?_, fun h => ?_⟩ <;> rw [hcell, h, storedRegister]

/-! ## The transfers -/

set_option maxRecDepth 100000 in
/-- Settles O15: each transfer is the default ending on its destination's `load` (TXS on `setSp`); the encodings are
read off the opcode map. -/
theorem transfersMoveOneRegister : Obligations.TransfersMoveOneRegister := by
  refine ⟨⟨by decide, by decide, by decide, by decide, by decide, by decide⟩,
    fun s => ⟨?tax, ?tay, ?txa, ?tya, ?tsx, ?txs⟩⟩
  case tax => exact (complete_docRow_imp_two .TAX s (s.loadX s.a)).trans (by rw [State.loadX_eq])
  case tay => exact (complete_docRow_imp_two .TAY s (s.loadY s.a)).trans (by rw [State.loadY_eq])
  case txa => exact (complete_docRow_imp_two .TXA s (s.loadA s.x)).trans (by rw [State.loadA_eq])
  case tya => exact (complete_docRow_imp_two .TYA s (s.loadA s.y)).trans (by rw [State.loadA_eq])
  case tsx => exact (complete_docRow_imp_two .TSX s (s.loadX s.sp)).trans (by rw [State.loadX_eq])
  case txs => exact complete_docRow_imp_two .TXS s (s.setSp s.x)

end Sys2Proof.Machine
end

section
/-! Proofs for the logic, compare and bit-test family: AND, ORA and EOR (R154 to R156), CMP, CPX and CPY (R157 to R159,
R163), BIT (R160). -/

namespace Sys2Proof.Machine

open Sys2Proof.Safety

/-! ## Logic -/

/-- The byte AND, ORA and EOR put into `A` (R154 to R156); no other mnemonic uses this value. -/
def logicResult (mn : Mnemonic) (a m : Byte) : Byte :=
  match mn with
  | .AND => a &&& m
  | .ORA => a ||| m
  | .EOR => a ^^^ m
  | _ => 0

/-- What every AND, ORA and EOR does: its result is loaded into `A` (R154 to R156). -/
theorem exec_of_logic {i : Instr} (h : i.mnemonic ∈ [Mnemonic.AND, .ORA, .EOR]) (s : State) :
    exec i s = .next (defaultEnding i s (s.loadA (logicResult i.mnemonic s.a (operandByte i.operand s)))) := by
  rw [exec_eq_perform, ← complete_eq_defaultEnding]
  simp only [List.mem_cons, List.not_mem_nil, or_false] at h
  obtain hand | hora | heor := h
  · rw [hand]; rfl
  · rw [hora]; rfl
  · rw [heor]; rfl

/-- The result bit by bit, for any place of a bit. -/
theorem getLsbD_logicResult {mn : Mnemonic} (h : mn ∈ [Mnemonic.AND, .ORA, .EOR]) (a m : Byte) (k : Nat) :
    (logicResult mn a m).getLsbD k =
      if mn = .AND then a.getLsbD k && m.getLsbD k
      else if mn = .ORA then a.getLsbD k || m.getLsbD k
      else a.getLsbD k != m.getLsbD k := by
  simp only [List.mem_cons, List.not_mem_nil, or_false] at h
  obtain rfl | rfl | rfl := h
  · exact BitVec.getLsbD_and
  · exact BitVec.getLsbD_or
  · exact BitVec.getLsbD_xor

set_option maxRecDepth 100000 in
/-- Settles O20: the byte is `logicResult`, its bits are `getLsbD_logicResult`, and `exec_of_logic` loads it into `A`; the
encodings are read off the opcode map. -/
theorem logicUpdatesTheAccumulator : Obligations.LogicUpdatesTheAccumulator := by
  refine ⟨⟨by decide, by decide, by decide⟩, fun i s h =>
    ⟨logicResult i.mnemonic s.a (operandByte i.operand s), fun k _ => getLsbD_logicResult h _ _ k, ?exec⟩⟩
  case exec => rw [exec_of_logic h, State.loadA_eq]

/-! ## Compare -/

/-- The register CMP, CPX and CPY compare with `M` (R157 to R159); no other mnemonic uses this value. -/
def comparedRegister (mn : Mnemonic) (s : State) : Byte :=
  if mn = .CMP then s.a else if mn = .CPX then s.x else s.y

/-- What every CMP, CPX and CPY does: its register is compared with `M` (R157 to R159). -/
theorem exec_of_compare {i : Instr} (h : i.mnemonic ∈ [Mnemonic.CMP, .CPX, .CPY]) (s : State) :
    exec i s =
      .next (defaultEnding i s (s.compare (comparedRegister i.mnemonic s) (operandByte i.operand s))) := by
  rw [exec_eq_perform, ← complete_eq_defaultEnding]
  simp only [List.mem_cons, List.not_mem_nil, or_false] at h
  obtain hcmp | hcpx | hcpy := h
  · rw [hcmp]; rfl
  · rw [hcpx]; rfl
  · rw [hcpy]; rfl

set_option maxRecDepth 100000 in
/-- Settles O21: each is a compare of its register with the default ending (`exec_of_compare`), whose three flags as
numbers are `State.compare_eq`; the encodings are read off the opcode map. -/
theorem comparesSetCarryNegativeZero : Obligations.ComparesSetCarryNegativeZero := by
  refine ⟨⟨by decide, by decide, by decide⟩, fun i s h => ?exec⟩
  case exec => rw [exec_of_compare h, State.compare_eq, comparedRegister]

/-! ## Bit test -/

/-- What every BIT does: Z from `A and M`, N and V copied from bits 7 and 6 of `M` (R160). -/
theorem exec_of_bit {i : Instr} (h : i.mnemonic = .BIT) (s : State) :
    exec i s = .next (defaultEnding i s
      { s with
        flagZ := decide (s.a &&& operandByte i.operand s = 0)
        flagN := (operandByte i.operand s).getLsbD 7
        flagV := (operandByte i.operand s).getLsbD 6 }) :=
  (exec_of_mnemonic h s).trans (complete_eq_defaultEnding i s _)

set_option maxRecDepth 100000 in
/-- Settles O22: the flags are those of `exec_of_bit`, with bits 7 and 6 of the operand as numbers; the encodings are read
off the opcode map. -/
theorem bitTestsTheOperand : Obligations.BitTestsTheOperand := by
  refine ⟨by decide, fun i s h => ?exec⟩
  case exec => rw [exec_of_bit h, getLsbD_seven_eq, getLsbD_six_eq]

end Sys2Proof.Machine
end

section
/-! Proofs for the shift, rotate, increment and decrement family: ASL, LSR, ROL and ROR (R170 to R173), INC and DEC
(R174, R175), INX, INY, DEX and DEY (R176 to R179). -/

namespace Sys2Proof.Machine

open Sys2Proof.Safety

/-! ## N and Z as numbers -/

/-- `setNZ` with the value as a number (R11). -/
theorem State.setNZ_eq_decide (s : State) (v : Byte) :
    s.setNZ v = { s with flagN := decide (v.toNat ≥ 128), flagZ := decide (v.toNat = 0) } := by
  rw [State.setNZ_eq, getLsbD_seven_eq, decide_eq_zero]

/-! ## Shifts and rotates -/

/-- What ASL, LSR, ROL and ROR make of a byte and the old carry (R170 to R173); no other mnemonic uses this value. -/
def shiftedByte (mn : Mnemonic) (m : Byte) (c : Bool) : Shifted :=
  match mn with
  | .ASL => shiftLeft m
  | .LSR => shiftRight m
  | .ROL => rotateLeft m c
  | .ROR => rotateRight m c
  | _ => ⟨0, false⟩

/-- What every ASL, LSR, ROL and ROR does: the result to its place, the bit shifted out to C, N and Z from the result
(R170 to R173, R180). -/
theorem exec_of_shift {i : Instr} (h : i.mnemonic ∈ shifts) {s : State} {q : Shifted}
    (hq : shiftedByte i.mnemonic (operandByte i.operand s) s.flagC = q) :
    exec i s = .next (defaultEnding i s (((s.writeResult i.operand q.value).setC q.carry).setNZ q.value)) := by
  rw [exec_eq_perform, ← complete_eq_defaultEnding, ← hq]
  simp only [shifts, List.mem_cons, List.not_mem_nil, or_false] at h
  obtain hasl | hlsr | hrol | hror := h
  · rw [hasl]; rfl
  · rw [hlsr]; rfl
  · rw [hrol]; rfl
  · rw [hror]; rfl

/-- The result and the bit shifted out as numbers. -/
theorem shiftedByte_eq {mn : Mnemonic} (h : mn ∈ shifts) (m : Byte) (c : Bool) :
    shiftedByte mn m c =
      ⟨BitVec.ofNat 8
        (if mn = .ASL then m.toNat * 2 % 256
         else if mn = .LSR then m.toNat / 2
         else if mn = .ROL then m.toNat * 2 % 256 + c.toNat
         else m.toNat / 2 + 128 * c.toNat),
       if mn ∈ [Mnemonic.ASL, .ROL] then decide (m.toNat ≥ 128) else decide (m.toNat % 2 = 1)⟩ := by
  simp only [shifts, List.mem_cons, List.not_mem_nil, or_false] at h
  obtain rfl | rfl | rfl | rfl := h
  · exact shiftLeft_eq m
  · exact shiftRight_eq m
  · exact rotateLeft_eq m c
  · exact rotateRight_eq m c

set_option maxRecDepth 20000 in
/-- No shift or rotate has an immediate form (R170 to R173). -/
theorem Instr.mode_ne_imm_of_shift {i : Instr} (h : i.mnemonic ∈ shifts) : i.operand.mode ≠ .imm := by
  rw [i.mode_eq]
  exact Instr.row_of_all (P := fun r => r.mnemonic ∈ shifts → r.mode ≠ .imm) (by decide) i h

set_option maxRecDepth 100000 in
/-- Settles O23: the result and the new carry are `shiftedByte_eq`, `exec_of_shift` puts them in their places, and the
place is `A` or the cell at `ea` by the operand; the encodings are read off the opcode map. -/
theorem shiftsMoveOneBit : Obligations.ShiftsMoveOneBit := by
  refine ⟨⟨by decide, by decide, by decide, by decide⟩, fun i s h => ?_⟩
  intro m r c t
  have hexec : exec i s = .next (defaultEnding i s (((s.writeResult i.operand r).setC c).setNZ r)) :=
    exec_of_shift h (shiftedByte_eq h m s.flagC)
  rw [hexec, State.setNZ_eq_decide]
  refine ⟨fun hacc => ⟨congrArg (operandByte · s) hacc, ?acc⟩,
    fun hmem => ⟨operandByte_memory (Instr.mode_ne_imm_of_shift h) hmem s, ?mem⟩⟩
  case acc => rw [hacc, State.writeResult_acc]; rfl
  case mem => rw [State.writeResult_memory hmem]; rfl

/-! ## Increment and decrement of a cell -/

/-- What INC and DEC make of a byte (R174, R175); no other mnemonic uses this value. -/
def steppedByte (mn : Mnemonic) (m : Byte) : Byte := if mn = .INC then m + 1 else m - 1

/-- What every INC and DEC does: the result to the cell at `ea`, N and Z from it (R174, R175, R180). -/
theorem exec_of_inc_dec {i : Instr} (h : i.mnemonic ∈ [Mnemonic.INC, .DEC]) {s : State} {v : Byte}
    (hv : steppedByte i.mnemonic (s.read (effAddr i.operand s)) = v) :
    exec i s = .next (defaultEnding i s ((s.write (effAddr i.operand s) v).setNZ v)) := by
  rw [exec_eq_perform, ← complete_eq_defaultEnding, ← hv]
  simp only [List.mem_cons, List.not_mem_nil, or_false] at h
  obtain hinc | hdec := h
  · rw [hinc]; rfl
  · rw [hdec]; rfl

/-- The result as a number: one more or one less, modulo 256. -/
theorem steppedByte_eq (mn : Mnemonic) (m : Byte) :
    steppedByte mn m = BitVec.ofNat 8 (if mn = .INC then (m.toNat + 1) % 256 else (m.toNat + 255) % 256) := by
  have hmod (n : Nat) : BitVec.ofNat 8 (n % 256) = BitVec.ofNat 8 n := BitVec.eq_of_toNat_eq (Nat.mod_mod n 256)
  rw [steppedByte]
  split
  · rw [add_one_eq, hmod]
  · rw [sub_one_eq, hmod]

set_option maxRecDepth 100000 in
/-- Settles O24: the byte written is `steppedByte_eq`, and `exec_of_inc_dec` writes it and sets N and Z from it; the
encodings are read off the opcode map. -/
theorem incrementAndDecrementMemory : Obligations.IncrementAndDecrementMemory := by
  refine ⟨⟨by decide, by decide⟩, fun i s h => ?exec⟩
  case exec => rw [exec_of_inc_dec h (steppedByte_eq _ _), State.setNZ_eq_decide]

/-! ## Increment and decrement of an index register -/

/-- `X <- setNZ(v)` with the value as a number. -/
theorem State.loadX_eq_decide (s : State) (v : Byte) :
    s.loadX v = { s with x := v, flagN := decide (v.toNat ≥ 128), flagZ := decide (v.toNat = 0) } :=
  State.setNZ_eq_decide (s.setX v) v

/-- `Y <- setNZ(v)` with the value as a number. -/
theorem State.loadY_eq_decide (s : State) (v : Byte) :
    s.loadY v = { s with y := v, flagN := decide (v.toNat ≥ 128), flagZ := decide (v.toNat = 0) } :=
  State.setNZ_eq_decide (s.setY v) v

set_option maxRecDepth 100000 in
/-- Settles O25: each is the default ending on its register's `load` of the next byte up or down; the encodings are read
off the opcode map. -/
theorem incrementAndDecrementIndex : Obligations.IncrementAndDecrementIndex := by
  refine ⟨⟨by decide, by decide, by decide, by decide⟩, fun s => ⟨?inx, ?iny, ?dex, ?dey⟩⟩
  case inx =>
    exact (complete_docRow_imp_two .INX s (s.loadX (s.x + 1))).trans (by rw [add_one_eq, State.loadX_eq_decide])
  case iny =>
    exact (complete_docRow_imp_two .INY s (s.loadY (s.y + 1))).trans (by rw [add_one_eq, State.loadY_eq_decide])
  case dex =>
    exact (complete_docRow_imp_two .DEX s (s.loadX (s.x - 1))).trans (by rw [sub_one_eq, State.loadX_eq_decide])
  case dey =>
    exact (complete_docRow_imp_two .DEY s (s.loadY (s.y - 1))).trans (by rw [sub_one_eq, State.loadY_eq_decide])

end Sys2Proof.Machine
end

section
/-! Proofs for the control-flow family: JMP (R190, R191), and RTS with the JSR it returns from (R192, R193). -/

namespace Sys2Proof.Machine

open Sys2Proof.Safety

/-- A joined word from its two bytes as numbers (R55). -/
theorem joinBytes_eq_ofNat (hi lo : Byte) : joinBytes hi lo = BitVec.ofNat 16 (hi.toNat * 256 + lo.toNat) := by
  rw [← toNat_joinBytes, BitVec.ofNat_toNat, BitVec.setWidth_eq]

/-! ## JMP -/

/-- What every JMP does: PC is `ea`, and nothing else changes but `cycles` (R190, R191). -/
theorem exec_of_jmp {i : Instr} (h : i.mnemonic = .JMP) (s : State) :
    exec i s = .next { s with pc := effAddr i.operand s, cycles := s.cycles + i.row.cycles } :=
  exec_of_mnemonic h s

/-- A pointer in the last cell of a page has its high byte in the first cell of that page (R191). -/
theorem pagePointer_of_last_in_page {w : Addr} (h : w.toNat % 256 = 255) (s : State) :
    pagePointer w s = joinBytes (s.read (w - 255)) (s.read w) := by
  have haddr : BitVec.ofNat 16 (w.toNat / 256 * 256 + (w.toNat + 1) % 256) = w - 255 := by bv_omega
  rw [pagePointer_eq_ofNat, haddr]

set_option maxRecDepth 100000 in
/-- Settles O26: JMP takes PC from `ea` (`exec_of_jmp`), which in the mode `ind` is the pointer read inside one page
(`pagePointer_eq_ofNat`, `pagePointer_of_last_in_page`); the encodings are read off the opcode map. -/
theorem jumpsSetThePc : Obligations.JumpsSetThePc := by
  refine ⟨by decide, fun w s => ⟨exec_of_jmp rfl s, ?ind, fun hlast => ⟨_, exec_of_jmp rfl s, ?wrap⟩⟩⟩
  case ind =>
    rw [← joinBytes_eq_ofNat, ← pagePointer_eq_ofNat]
    exact exec_of_jmp rfl s
  case wrap => exact pagePointer_of_last_in_page hlast s

/-! ## RTS -/

/-- What RTS does: two pulls, and PC one past the word pulled (R193). -/
theorem exec_rts (s : State) :
    exec .rts s = .next { s with sp := s.sp + 1 + 1, pc := s.pulledWord + 1, cycles := s.cycles + 6 } := rfl

/-- Moving the stack pointer up twice by one is moving it up by two. -/
theorem add_one_add_one (v : Byte) : v + 1 + 1 = v + 2 := BitVec.add_assoc v 1 1

/-- The word two pulls give, as a number (R193). -/
theorem State.pulledWord_eq_ofNat (s : State) :
    s.pulledWord =
      BitVec.ofNat 16 ((s.read (stackCell (s.sp + 2))).toNat * 256 + (s.read (stackCell (s.sp + 1))).toNat) := by
  rw [State.pulledWord_eq, joinBytes_eq_ofNat, add_one_add_one, ← stackCell_eq, ← stackCell_eq]

/-- What two pulls give depends on the stack pointer and on memory alone. -/
theorem State.pulledWord_congr {s t : State} (hsp : s.sp = t.sp) (hmem : s.mem = t.mem) :
    s.pulledWord = t.pulledWord := by
  rw [State.pulledWord_eq, State.pulledWord_eq, hsp, State.read_congr hmem, State.read_congr hmem]

/-- Two pulls after a word was pushed give that word (R55). -/
theorem State.pulledWord_pushWord (s : State) (w : Addr) : (s.pushWord w).pulledWord = w := by
  have hcells : stackAddr s.sp ≠ stackAddr (s.sp - 1) := stackAddr_inj.not.mpr (by bv_omega)
  have hlo : (s.pushWord w).read (stackAddr (s.sp - 1)) = lowByte w := by rw [State.read_pushWord, if_pos rfl]
  have hhi : (s.pushWord w).read (stackAddr s.sp) = page w := by
    rw [State.read_pushWord, if_neg hcells, if_pos rfl]
  rw [State.pulledWord_eq, State.pushWord_sp, BitVec.sub_add_cancel, BitVec.sub_add_cancel, hlo, hhi,
    joinBytes_page_lowByte]

/-- What JSR leaves on the stack: the word `pc0 + 2`, pushed (R192). -/
theorem exec_jsrAbs_leaves {w : Addr} {s t : State} (h : exec (.jsrAbs w) s = .next t) :
    t.sp = (s.pushWord (s.pc + 2)).sp ∧ t.mem = (s.pushWord (s.pc + 2)).mem := by
  cases h
  exact ⟨rfl, rfl⟩

set_option maxRecDepth 100000 in
/-- Settles O29: RTS is two pulls (`exec_rts`, `State.pulledWord_eq_ofNat`); what a JSR left there is `pc0 + 2`
(`exec_jsrAbs_leaves`), which two pulls give back (`State.pulledWord_pushWord`); the encodings are read off the opcode
map. -/
theorem rtsReturnsPastTheCall : Obligations.RtsReturnsPastTheCall := by
  refine ⟨by decide, fun s => ?pull, fun w s t p hjsr => ⟨_, exec_rts _, ?pc, ?sp⟩⟩
  case pull =>
    rw [exec_rts, State.pulledWord_eq_ofNat, add_one_add_one, BitVec.ofNat_add _ 1]
    rfl
  case pc =>
    obtain ⟨hsp, hmem⟩ := exec_jsrAbs_leaves hjsr
    calc ({ t with pc := p } : State).pulledWord + 1
        = (s.pushWord (s.pc + 2)).pulledWord + 1 := congrArg (· + 1) (State.pulledWord_congr hsp hmem)
      _ = s.pc + 2 + 1 := by rw [State.pulledWord_pushWord]
      _ = s.pc + 3 := BitVec.add_assoc s.pc 2 1
  case sp =>
    obtain ⟨hsp, -⟩ := exec_jsrAbs_leaves hjsr
    calc t.sp + 1 + 1 = s.sp - 1 - 1 + 1 + 1 := by rw [hsp, State.pushWord_sp]
      _ = s.sp := by rw [BitVec.sub_add_cancel, BitVec.sub_add_cancel]

end Sys2Proof.Machine
end

section
/-! Proofs for the stack and flag family: the seven flag instructions (R214 to R220). -/

namespace Sys2Proof.Machine

open Sys2Proof.Safety

set_option maxRecDepth 100000 in
/-- Settles O32: each is the default ending on the state with its one flag written; the encodings are read off the
opcode map. -/
theorem flagInstructionsWriteOneFlag : Obligations.FlagInstructionsWriteOneFlag := by
  refine ⟨⟨by decide, by decide, by decide, by decide, by decide, by decide, by decide⟩,
    fun s => ⟨?clc, ?sec, ?cli, ?sei, ?cld, ?sed, ?clv⟩⟩
  case clc => exact complete_docRow_imp_two .CLC s (s.setC false)
  case sec => exact complete_docRow_imp_two .SEC s (s.setC true)
  case cli => exact complete_docRow_imp_two .CLI s (s.setI false)
  case sei => exact complete_docRow_imp_two .SEI s (s.setI true)
  case cld => exact complete_docRow_imp_two .CLD s (s.setD false)
  case sed => exact complete_docRow_imp_two .SED s (s.setD true)
  case clv => exact complete_docRow_imp_two .CLV s (s.setV false)

end Sys2Proof.Machine
end

section
/-! Proofs for the system family: NOP, documented and undocumented (R232, R257). -/

namespace Sys2Proof.Machine

open Sys2Proof.Safety

/-- What every NOP does: the default ending on the state as it was, in every variant (R232, R257). -/
theorem exec_of_nop {i : Instr} (h : i.mnemonic = .NOP) (s : State) : exec i s = .next (defaultEnding i s s) :=
  (exec_of_mnemonic h s).trans (complete_eq_defaultEnding i s s)

set_option maxRecDepth 20000 in
/-- The NOPs with the page-cross penalty are those in the mode `abx` (R257). -/
theorem Instr.penalty_iff_mode_abx_of_nop {i : Instr} (h : i.mnemonic = .NOP) :
    i.row.pageCrossPenalty = true ↔ i.operand.mode = .abx := by
  rw [i.mode_eq]
  exact Instr.row_of_all (P := fun r => r.mnemonic = .NOP → (r.pageCrossPenalty = true ↔ r.mode = .abx)) (by decide) i h

set_option maxRecDepth 100000 in
/-- Settles O36: a NOP is the default ending alone (`exec_of_nop`), whose penalty is that of the mode `abx`
(`Instr.penalty_iff_mode_abx_of_nop`); the encodings are read off the opcode map. -/
theorem nopsOnlyAdvance : Obligations.NopsOnlyAdvance := by
  refine ⟨by decide, fun i s h => ?_⟩
  simp only [exec_of_nop h, defaultEnding, Instr.penalty_iff_mode_abx_of_nop h]

end Sys2Proof.Machine
end

section
/-! Proofs for the stable undocumented family: SLO, RLA and SRE (R241 to R243), SAX and LAX (R247, R248), ANC, ALR, SBX
and LAS (R249, R250, R252, R254), all with UNDOC_MODE = full. -/

namespace Sys2Proof.Machine

open Sys2Proof.Safety

/-! ## The default ending in full mode -/

/-- An instruction whose mnemonic's operation is an undocumented one that ends by default does, in `full` mode, what its
rule gives (R240). -/
theorem exec_of_undocumented {i : Instr} {s t : State} (hfull : s.variant.undocMode = .full)
    (hperform : perform i.mnemonic i.row i.operand s =
      undocumented i.row i.operand s (complete i.row i.operand s t)) :
    exec i s = .next (defaultEnding i s t) := by
  rw [exec_eq_perform, hperform, undocumented_full hfull, complete_eq_defaultEnding]

/-! ## SLO, RLA and SRE -/

/-- The mnemonics of R241 to R243. -/
def shiftCombinations : List Mnemonic := [.SLO, .RLA, .SRE]

/-- What SLO, RLA and SRE make of the byte at `ea` and the old carry (R241 to R243); no other mnemonic uses this
value. -/
def combinedShift (mn : Mnemonic) (m : Byte) (c : Bool) : Shifted :=
  if mn = .SLO then shiftLeft m else if mn = .RLA then rotateLeft m c else shiftRight m

/-- What SLO, RLA and SRE make of `A` and the shifted byte (R241 to R243); no other mnemonic uses this value. -/
def combinedLogic (mn : Mnemonic) (a r : Byte) : Byte :=
  if mn = .SLO then a ||| r else if mn = .RLA then a &&& r else a ^^^ r

set_option maxRecDepth 20000 in
/-- SLO, RLA and SRE have memory forms only (R241 to R243). -/
theorem Instr.mode_of_shiftCombination {i : Instr} (h : i.mnemonic ∈ shiftCombinations) :
    i.operand.mode ∉ [Mode.imp, .acc, .imm] := by
  rw [i.mode_eq]
  exact Instr.row_of_all (P := fun r => r.mnemonic ∈ shiftCombinations → r.mode ∉ [Mode.imp, .acc, .imm])
    (by decide) i h

/-- The shifted byte and the bit moved out as numbers. -/
theorem combinedShift_eq {mn : Mnemonic} (h : mn ∈ shiftCombinations) (m : Byte) (c : Bool) :
    combinedShift mn m c =
      ⟨BitVec.ofNat 8
        (if mn = .SLO then m.toNat * 2 % 256
         else if mn = .RLA then m.toNat * 2 % 256 + c.toNat
         else m.toNat / 2),
       if mn = .SRE then decide (m.toNat % 2 = 1) else decide (m.toNat ≥ 128)⟩ := by
  simp only [shiftCombinations, List.mem_cons, List.not_mem_nil, or_false] at h
  obtain rfl | rfl | rfl := h
  · exact shiftLeft_eq m
  · exact rotateLeft_eq m c
  · exact shiftRight_eq m

/-- What every SLO, RLA and SRE does: the shifted byte to the cell at `ea`, the bit moved out to C, and the shifted byte
combined into `A` (R241 to R243). -/
theorem exec_of_shiftCombination {i : Instr} (h : i.mnemonic ∈ shiftCombinations) {s : State}
    (hfull : s.variant.undocMode = .full) {q : Shifted}
    (hq : combinedShift i.mnemonic (s.read (effAddr i.operand s)) s.flagC = q) :
    exec i s = .next (defaultEnding i s
      (((s.write (effAddr i.operand s) q.value).setC q.carry).loadA (combinedLogic i.mnemonic s.a q.value))) := by
  apply exec_of_undocumented hfull
  rw [← hq, ← operandByte_of_mode (Instr.mode_of_shiftCombination h)]
  simp only [shiftCombinations, List.mem_cons, List.not_mem_nil, or_false] at h
  obtain hslo | hrla | hsre := h
  · rw [hslo]; rfl
  · rw [hrla]; rfl
  · rw [hsre]; rfl

set_option maxRecDepth 100000 in
/-- Settles O38: the shifted byte and the bit moved out are `combinedShift_eq`, and `exec_of_shiftCombination` puts them
in their places; the encodings are read off the opcode map. -/
theorem shiftAndLogicCombinations : Obligations.ShiftAndLogicCombinations := by
  refine ⟨⟨by decide, by decide, by decide⟩, fun i s h hfull => ?_⟩
  intro m r c a
  rw [exec_of_shiftCombination h hfull (combinedShift_eq h m s.flagC), State.loadA_eq]
  rfl

/-! ## SAX and LAX -/

/-- What every SAX does: `A and X` to the cell at `ea` (R247). -/
theorem exec_of_sax {i : Instr} (h : i.mnemonic = .SAX) {s : State} (hfull : s.variant.undocMode = .full) :
    exec i s = .next (defaultEnding i s (s.write (effAddr i.operand s) (s.a &&& s.x))) :=
  exec_of_undocumented hfull (by rw [h]; rfl)

/-- What every LAX does: `M` into `A`, with N and Z from it, and into `X` (R248). -/
theorem exec_of_lax {i : Instr} (h : i.mnemonic = .LAX) {s : State} (hfull : s.variant.undocMode = .full) :
    exec i s =
      .next (defaultEnding i s ((s.loadA (operandByte i.operand s)).setX (operandByte i.operand s))) :=
  exec_of_undocumented hfull (by rw [h]; rfl)

set_option maxRecDepth 100000 in
/-- Settles O40: SAX is a store (`exec_of_sax`) and LAX a load of both registers (`exec_of_lax`), whose flags are those
of `State.loadA_eq`; the encodings are read off the opcode map. -/
theorem saxStoresAndLaxLoadsBoth : Obligations.SaxStoresAndLaxLoadsBoth := by
  refine ⟨⟨by decide, by decide⟩, fun i s hfull => ⟨fun h => exec_of_sax h hfull, fun h => ?lax⟩⟩
  case lax => rw [exec_of_lax h hfull, State.loadA_eq]; rfl

/-! ## ANC, ALR, SBX and LAS -/

/-- What every ANC does: `A and M` into `A`, with N and Z from it, and N into C (R249). -/
theorem exec_of_anc {i : Instr} (h : i.mnemonic = .ANC) {s : State} (hfull : s.variant.undocMode = .full) :
    exec i s = .next (defaultEnding i s
      ((s.loadA (s.a &&& operandByte i.operand s)).setC (s.a &&& operandByte i.operand s).msb)) :=
  exec_of_undocumented hfull (by rw [h]; rfl)

/-- What every ALR does: `A and M` shifted right into `A`, the bit moved out to C (R250). -/
theorem exec_of_alr {i : Instr} (h : i.mnemonic = .ALR) {s : State} (hfull : s.variant.undocMode = .full) {q : Shifted}
    (hq : shiftRight (s.a &&& operandByte i.operand s) = q) :
    exec i s = .next (defaultEnding i s ((s.setC q.carry).loadA q.value)) :=
  exec_of_undocumented hfull (by rw [h, ← hq]; rfl)

/-- What every SBX does: `A and X` is compared with `M`, and the difference is the new `X` (R252). -/
theorem exec_of_sbx {i : Instr} (h : i.mnemonic = .SBX) {s : State} (hfull : s.variant.undocMode = .full) :
    exec i s = .next (defaultEnding i s
      ((s.compare (s.a &&& s.x) (operandByte i.operand s)).setX ((s.a &&& s.x) - operandByte i.operand s))) :=
  exec_of_undocumented hfull (by rw [h]; rfl)

/-- What every LAS does: `M and S` into `A`, with N and Z from it, into `X` and into `S` (R254). -/
theorem exec_of_las {i : Instr} (h : i.mnemonic = .LAS) {s : State} (hfull : s.variant.undocMode = .full) :
    exec i s = .next (defaultEnding i s
      (((s.loadA (operandByte i.operand s &&& s.sp)).setX (operandByte i.operand s &&& s.sp)).setSp
        (operandByte i.operand s &&& s.sp))) :=
  exec_of_undocumented hfull (by rw [h]; rfl)

/-- Half of a byte, as a number. -/
theorem toNat_ofNat_half (t : Byte) : (BitVec.ofNat 8 (t.toNat / 2)).toNat = t.toNat / 2 := by
  have ht := t.isLt
  rw [BitVec.toNat_ofNat, Nat.mod_eq_of_lt (by omega)]

/-- Loading half of a byte clears N, and Z says that the byte was below 2 (R250). -/
theorem State.loadA_half (s : State) (t : Byte) :
    s.loadA (BitVec.ofNat 8 (t.toNat / 2)) =
      { s with a := BitVec.ofNat 8 (t.toNat / 2), flagN := false, flagZ := decide (t.toNat < 2) } := by
  have ht := t.isLt
  have hn : ¬ t.toNat / 2 ≥ 128 := by omega
  have hz : t.toNat / 2 = 0 ↔ t.toNat < 2 := by omega
  rw [State.loadA_eq, getLsbD_seven_eq, decide_eq_zero, toNat_ofNat_half, decide_eq_false hn, decide_eq_decide.mpr hz]

/-- The difference of two bytes, as a number modulo 256 (R252). -/
theorem sub_eq_ofNat (t m : Byte) : t - m = BitVec.ofNat 8 (t.toNat + 256 - m.toNat) := by
  have hm := m.isLt
  apply BitVec.eq_of_toNat_eq
  rw [BitVec.toNat_sub, BitVec.toNat_ofNat]
  omega

set_option maxRecDepth 100000 in
/-- Settles O41: each is its `exec_of_` lemma; the flags are those of `State.loadA_eq` (ALR: `State.loadA_half`), and for
SBX those of `State.compare_eq`, with the difference as `sub_eq_ofNat`; the encodings are read off the opcode map. -/
theorem immediateCombinations : Obligations.ImmediateCombinations := by
  refine ⟨⟨by decide, by decide, by decide, by decide⟩, fun i s hfull => ?_⟩
  refine ⟨fun h => ?anc, fun h => ?alr, fun h => ?sbx, fun h => ?las⟩
  case anc => rw [exec_of_anc h hfull, State.loadA_eq, BitVec.msb_eq_getLsbD_last]; rfl
  case alr => rw [exec_of_alr h hfull (shiftRight_eq _), State.loadA_half]; rfl
  case sbx => rw [exec_of_sbx h hfull, State.compare_eq, sub_eq_ofNat]; rfl
  case las => rw [exec_of_las h hfull, State.loadA_eq]; rfl

end Sys2Proof.Machine
end

section
/-! Proofs for the encoding family: decoding and encoding undo each other (R70 to R74, R77), and a step runs what it
decodes (R84). -/

namespace Sys2Proof

/-! ## Decoding what was encoded -/

/-- Every operand is its mode's with some operand bytes (R72, R73). -/
theorem Operand.exists_eq_mode_operand (op : Operand) : ∃ b1 b2, op = op.mode.operand b1 b2 := by
  cases op with
  | imp | acc => exact ⟨0, 0, rfl⟩
  | imm d | zp d | zpx d | zpy d | izx d | izy d | rel d => exact ⟨d, 0, rfl⟩
  | abs w | abx w | aby w | ind w => exact ⟨lowByte w, page w, by simp [Operand.mode, Mode.operand]⟩

/-- The opcode's format makes each instruction again from the bytes of its operand (R72, R75). -/
theorem Instr.instr_formatOf_opcode (i : Instr) {b1 b2 : Byte} (h : i.operand = i.operand.mode.operand b1 b2) :
    (formatOf i.opcode).instr b1 b2 = i := by
  cases i <;> (cases h; rfl)

/-- A list that begins with all the bytes its opcode asks for decodes to the format's instruction, whatever follows
(R70). -/
theorem decode_take_append (b0 b1 b2 : Byte) (rest : List Byte) :
    decode ([b0, b1, b2].take (formatOf b0).length ++ rest) = .ok ((formatOf b0).instr b1 b2, rest) := by
  cases h : formatOf b0 <;> simp [Format.length, Format.instr, decode, h]

/-- Settles O2: the encoding is the opcode with its format's operand bytes (`Mode.cons_bytes_operand`), and from
these the format makes the instruction again (`Instr.instr_formatOf_opcode`). -/
theorem decodeOfEncodeIsTheInstruction : Obligations.DecodeOfEncodeIsTheInstruction := by
  intro i rest
  obtain ⟨b1, b2, hop⟩ := i.operand.exists_eq_mode_operand
  have hencode : encode i = [i.opcode, b1, b2].take (formatOf i.opcode).length := by
    rw [encode, hop, Mode.cons_bytes_operand, i.mode_eq, Instr.row, length_formatOf]
  rw [hencode, decode_take_append, i.instr_formatOf_opcode hop]

/-! ## Encoding what was decoded -/

/-- What decodes is the bytes its opcode asks for, then the rest; it decodes to `decodeBytes` of them (R70, R72). -/
theorem decode_eq_ok {bytes rest : List Byte} {i : Instr} (h : decode bytes = .ok (i, rest)) :
    ∃ b0 b1 b2, i = decodeBytes b0 b1 b2 ∧ bytes = [b0, b1, b2].take (formatOf b0).length ++ rest := by
  match bytes with
  | [] => cases h
  | b0 :: operands =>
    cases hf : formatOf b0 with
    | f1 j =>
      obtain ⟨rfl, rfl⟩ : j = i ∧ operands = rest := by simpa [decode, hf] using h
      exact ⟨b0, 0, 0, by rw [decodeBytes, hf], by rw [hf]; rfl⟩
    | f2 mk =>
      match operands with
      | [] => simp [decode, hf] at h
      | b1 :: rest' =>
        obtain ⟨rfl, rfl⟩ : mk b1 = i ∧ rest' = rest := by simpa [decode, hf] using h
        exact ⟨b0, b1, 0, by rw [decodeBytes, hf], by rw [hf]; rfl⟩
    | f3 mk =>
      match operands with
      | [] | [_] => simp [decode, hf] at h
      | b1 :: b2 :: rest' =>
        obtain ⟨rfl, rfl⟩ : mk (joinBytes b2 b1) = i ∧ rest' = rest := by simpa [decode, hf] using h
        exact ⟨b0, b1, b2, by rw [decodeBytes, hf], by rw [hf]; rfl⟩

/-- Settles O3: the list is the bytes its opcode asks for and the rest (`decode_eq_ok`), and these are the encoding
(`encode_decodeBytes`). -/
theorem decodedBytesAreTheEncoding : Obligations.DecodedBytesAreTheEncoding := by
  intro bytes i rest h
  obtain ⟨b0, b1, b2, rfl, rfl⟩ := decode_eq_ok h
  rw [encode_decodeBytes, length_formatOf]

/-- Settles O5: each is the format at the place of its opcode byte, applied to the bytes after it. -/
theorem spelledWordsDecode : Obligations.SpelledWordsDecode :=
  ⟨rfl, rfl, rfl, rfl, rfl, rfl, rfl, rfl, rfl, rfl, rfl, rfl, rfl, rfl, rfl⟩

/-- Settles O1: `decode` of the three bytes is the instruction of the fetch (`decode_cons_cons_cons`), and a step is its
`exec` with `lastPC` recorded (`step_eq`). -/
theorem stepRunsDecodedInstruction : Obligations.StepRunsDecodedInstruction := by
  intro s i rest hdecode _
  rw [decode_cons_cons_cons, Except.ok.injEq, Prod.mk.injEq] at hdecode
  obtain ⟨rfl, -⟩ := hdecode
  exact Machine.step_eq s

end Sys2Proof
end

section
/-! What every instruction answers, said once: the state its mnemonic makes (`effect`), with PC and `cycles` as its
mnemonic says (`continuation`, `charge`). The statements about all instructions at once are each a fact about one of
the three. -/

namespace Sys2Proof.Machine

open Sys2Proof.Safety

/-! ## The three parts of an answer -/

/-- The mnemonics R240 concerns, NOP apart, which does the same in both modes. -/
def undocumentedMnemonics : List Mnemonic :=
  [.SLO, .RLA, .SRE, .RRA, .DCP, .ISC, .SAX, .LAX, .ANC, .ALR, .ARR, .SBX, .USBC, .LAS, .ANE, .LXA, .JAM]

/-- The control transfers that are no branch. -/
def jumps : List Mnemonic := [.JMP, .JSR, .RTS, .BRK, .RTI, .JAM]

/-- What a mnemonic makes of the registers, the flags and memory, PC and `cycles` apart, by the rule of each; for an
undocumented one in `full` mode. Those not listed change none of them. -/
def effect (mn : Mnemonic) (op : Operand) (s : State) : State :=
  let m := operandByte op s
  let ea := effAddr op s
  match mn with
  | .LDA => s.loadA m
  | .LDX => s.loadX m
  | .LDY => s.loadY m
  | .STA => s.write ea s.a
  | .STX => s.write ea s.x
  | .STY => s.write ea s.y
  | .TAX => s.loadX s.a
  | .TAY => s.loadY s.a
  | .TXA => s.loadA s.x
  | .TYA => s.loadA s.y
  | .TSX => s.loadX s.sp
  | .TXS => s.setSp s.x
  | .ADC => s.add m
  | .SBC => s.sub m
  | .AND => s.loadA (s.a &&& m)
  | .ORA => s.loadA (s.a ||| m)
  | .EOR => s.loadA (s.a ^^^ m)
  | .CMP => s.compare s.a m
  | .CPX => s.compare s.x m
  | .CPY => s.compare s.y m
  | .BIT => { s with flagZ := decide (s.a &&& m = 0), flagN := m.getLsbD 7, flagV := m.getLsbD 6 }
  | .ASL => ((s.writeResult op (shiftLeft m).value).setC (shiftLeft m).carry).setNZ (shiftLeft m).value
  | .LSR => ((s.writeResult op (shiftRight m).value).setC (shiftRight m).carry).setNZ (shiftRight m).value
  | .ROL =>
    let q := rotateLeft m s.flagC
    ((s.writeResult op q.value).setC q.carry).setNZ q.value
  | .ROR =>
    let q := rotateRight m s.flagC
    ((s.writeResult op q.value).setC q.carry).setNZ q.value
  | .INC => (s.write ea (s.read ea + 1)).setNZ (s.read ea + 1)
  | .DEC => (s.write ea (s.read ea - 1)).setNZ (s.read ea - 1)
  | .INX => s.loadX (s.x + 1)
  | .INY => s.loadY (s.y + 1)
  | .DEX => s.loadX (s.x - 1)
  | .DEY => s.loadY (s.y - 1)
  | .PHA => s.push s.a
  | .PHP => s.push (s.statusImage true)
  | .PLA => s.pop.loadA s.pulled
  | .PLP => s.pop.setStatus s.pulled
  | .CLC => s.setC false
  | .SEC => s.setC true
  | .CLI => s.setI false
  | .SEI => s.setI true
  | .CLD => s.setD false
  | .SED => s.setD true
  | .CLV => s.setV false
  | .JSR => s.pushWord (s.pc + 2)
  | .RTS => s.pop.pop
  | .BRK => s.enterTrap (s.pc + 2) true irqVector
  | .RTI => s.leaveTrap
  | .SLO => ((s.write ea (shiftLeft m).value).setC (shiftLeft m).carry).loadA (s.a ||| (shiftLeft m).value)
  | .RLA =>
    let q := rotateLeft m s.flagC
    ((s.write ea q.value).setC q.carry).loadA (s.a &&& q.value)
  | .SRE => ((s.write ea (shiftRight m).value).setC (shiftRight m).carry).loadA (s.a ^^^ (shiftRight m).value)
  | .RRA =>
    let q := rotateRight m s.flagC
    ((s.write ea q.value).setC q.carry).add q.value
  | .DCP => (s.write ea (m - 1)).compare s.a (m - 1)
  | .ISC => (s.write ea (m + 1)).sub (m + 1)
  | .SAX => s.write ea (s.a &&& s.x)
  | .LAX => (s.loadA m).setX m
  | .ANC => (s.loadA (s.a &&& m)).setC (s.a &&& m).msb
  | .ALR =>
    let q := shiftRight (s.a &&& m)
    (s.setC q.carry).loadA q.value
  | .ARR => s.putSum (arrResult s.decimalMode (s.a &&& m) s.flagC)
  | .SBX => (s.compare (s.a &&& s.x) m).setX ((s.a &&& s.x) - m)
  | .USBC => s.sub m
  | .LAS => ((s.loadA (m &&& s.sp)).setX (m &&& s.sp)).setSp (m &&& s.sp)
  | .ANE => s.loadA ((s.a ||| Config.aneMagic) &&& s.x &&& m)
  | .LXA =>
    let v := (s.a ||| Config.lxaMagic) &&& m
    (s.loadA v).setX v
  | .SHA => s.write ea (s.a &&& s.x &&& latchedByte op s)
  | .SHX => s.write ea (s.x &&& latchedByte op s)
  | .SHY => s.write ea (s.y &&& latchedByte op s)
  | .TAS => (s.setSp (s.a &&& s.x)).write ea (s.a &&& s.x &&& latchedByte op s)
  | _ => s

/-- Where a mnemonic continues: past the instruction, unless it transfers control (R30, R190 to R202, R230, R231,
R258). -/
def continuation (mn : Mnemonic) (op : Operand) (s : State) : Addr :=
  match mn with
  | .JMP => effAddr op s
  | .JSR => joinBytes ((s.pushWord (s.pc + 2)).read (s.pc + 2)) (lowByte (effAddr op s))
  | .RTS => s.pulledWord + 1
  | .BRK => (s.enterTrap (s.pc + 2) true irqVector).pc
  | .RTI => s.leaveTrap.pc
  | .JAM => s.pc
  | .BPL | .BMI | .BVC | .BVS | .BCC | .BCS | .BNE | .BEQ =>
    if branchCondition mn s = true then effAddr op s else s.pc + 2
  | _ => s.pc + BitVec.ofNat 16 op.length

/-- What a mnemonic adds to `cycles`: its cost, or for a branch what R194 says. -/
def charge (mn : Mnemonic) (r : Row) (op : Operand) (s : State) : Nat :=
  if mn ∈ branches then
    if branchCondition mn s = true then 3 + (if page (effAddr op s) = page (s.pc + 2) then 0 else 1) else 2
  else cost r op s

/-- The answer put together. -/
def answer (mn : Mnemonic) (r : Row) (op : Operand) (s : State) : State :=
  { effect mn op s with pc := continuation mn op s, cycles := s.cycles + charge mn r op s }

/-! ## That it is the answer -/

/-- The common rule of the branches as one state (R194). -/
theorem branchIf_eq (cond : Bool) {r : Row} (hr : r.cycles = 2) (op : Operand) (s : State) :
    branchIf cond r op s = .next { s with
      pc := if cond = true then effAddr op s else s.pc + 2
      cycles := s.cycles +
        if cond = true then 3 + (if page (effAddr op s) = page (s.pc + 2) then 0 else 1) else 2 } := by
  cases cond <;> simp only [branchIf, hr] <;> rfl

/-- Each branch is the common rule on its condition (R195 to R202). -/
theorem perform_eq_branchIf {mn : Mnemonic} (h : mn ∈ branches) (r : Row) (op : Operand) (s : State) :
    perform mn r op s = branchIf (branchCondition mn s) r op s := by
  simp only [branches, List.mem_cons, List.not_mem_nil, or_false] at h
  obtain rfl | rfl | rfl | rfl | rfl | rfl | rfl | rfl := h
  all_goals simp [perform, branchCondition, doBpl, doBmi, doBvc, doBvs, doBcc, doBcs, doBne, doBeq]

/-- The answer of a branch: PC and `cycles` only. -/
theorem answer_of_branch {mn : Mnemonic} (h : mn ∈ branches) (r : Row) (op : Operand) (s : State) :
    answer mn r op s = { s with
      pc := if branchCondition mn s = true then effAddr op s else s.pc + 2
      cycles := s.cycles +
        if branchCondition mn s = true then 3 + (if page (effAddr op s) = page (s.pc + 2) then 0 else 1) else 2 } := by
  rw [answer, charge, if_pos h]
  simp only [branches, List.mem_cons, List.not_mem_nil, or_false] at h
  obtain rfl | rfl | rfl | rfl | rfl | rfl | rfl | rfl := h
  all_goals rfl

/-- The answer of a jump: its row has no penalty, so its cost is the base count (R114). -/
theorem answer_of_jump {mn : Mnemonic} (h : mn ∈ jumps) {r : Row} (hr : r.pageCrossPenalty = false) (op : Operand)
    (s : State) :
    answer mn r op s = { effect mn op s with pc := continuation mn op s, cycles := s.cycles + r.cycles } := by
  have hbranch : mn ∉ branches := by
    revert h
    cases mn <;> decide
  rw [answer, charge, if_neg hbranch, cost_of_no_penalty hr]

/-- Adding cycles to a state with the cycle count of another. -/
theorem State.addCycles_eq {s t : State} (h : t.cycles = s.cycles) (n : Nat) :
    t.addCycles n = { t with pc := t.pc, cycles := s.cycles + n } := by
  rw [State.addCycles, h]

/-- What a mnemonic's shared operation answers, in `full` mode if it is an undocumented one. -/
theorem perform_eq_answer (mn : Mnemonic) {r : Row} (op : Operand) {s : State}
    (hbranch : mn ∈ branches → r.cycles = 2) (hjump : mn ∈ jumps → r.pageCrossPenalty = false)
    (hfull : mn ∈ undocumentedMnemonics → s.variant.undocMode = .full) :
    perform mn r op s = .next (answer mn r op s) := by
  cases mn with
  | BPL | BMI | BVC | BVS | BCC | BCS | BNE | BEQ =>
    rw [perform_eq_branchIf (by decide), branchIf_eq _ (hbranch (by decide)), answer_of_branch (by decide)]
  | JMP | JSR | RTS | RTI =>
    rw [answer_of_jump (by decide) (hjump (by decide))]
    rfl
  | BRK =>
    rw [answer_of_jump (by decide) (hjump (by decide))]
    exact congrArg Host.Outcome.next (State.addCycles_eq (State.enterTrap_cycles s (s.pc + 2) true irqVector) r.cycles)
  | JAM =>
    rw [answer_of_jump (by decide) (hjump (by decide))]
    exact undocumented_full (hfull (by decide)) r op _
  | SLO | RLA | SRE | RRA | DCP | ISC | SAX | LAX | ANC | ALR | ARR | SBX | USBC | LAS | ANE | LXA =>
    exact undocumented_full (hfull (by decide)) r op _
  | _ => rfl

/-- In `skip` mode an undocumented mnemonic has the default ending alone (R240). -/
theorem perform_of_skip {mn : Mnemonic} (h : mn ∈ undocumentedMnemonics) {s : State}
    (hskip : s.variant.undocMode = .skip) (r : Row) (op : Operand) : perform mn r op s = complete r op s s := by
  cases mn with
  | SLO | RLA | SRE | RRA | DCP | ISC | SAX | LAX | ANC | ALR | ARR | SBX | USBC | LAS | ANE | LXA | JAM =>
    exact undocumented_skip hskip r op _
  | _ => exact absurd h (by decide)

set_option maxRecDepth 20000 in
/-- The base count of a branch (R194). -/
theorem Instr.cycles_of_branch {i : Instr} : i.mnemonic ∈ branches → i.row.cycles = 2 :=
  Instr.row_of_all (P := fun r => r.mnemonic ∈ branches → r.cycles = 2) (by decide) i

set_option maxRecDepth 20000 in
/-- No jump has the page-cross penalty (R75). -/
theorem Instr.no_penalty_of_jump {i : Instr} : i.mnemonic ∈ jumps → i.row.pageCrossPenalty = false :=
  Instr.row_of_all (P := fun r => r.mnemonic ∈ jumps → r.pageCrossPenalty = false) (by decide) i

/-- An instruction that is not skipped answers `answer`. -/
theorem exec_eq_answer {i : Instr} {s : State}
    (hfull : i.mnemonic ∈ undocumentedMnemonics → s.variant.undocMode = .full) :
    exec i s = .next (answer i.mnemonic i.row i.operand s) := by
  rw [exec_eq_perform,
    perform_eq_answer i.mnemonic i.operand Instr.cycles_of_branch Instr.no_penalty_of_jump hfull]

/-- An undocumented instruction in `skip` mode has the default ending alone (R240). -/
theorem exec_of_skip {i : Instr} (h : i.mnemonic ∈ undocumentedMnemonics) {s : State}
    (hskip : s.variant.undocMode = .skip) : exec i s = .next (defaultEnding i s s) := by
  rw [exec_eq_perform, perform_of_skip h hskip, complete_eq_defaultEnding]

/-- Every instruction answers one of the two. -/
theorem exec_cases (i : Instr) (s : State) :
    exec i s = .next (answer i.mnemonic i.row i.operand s) ∨
      (i.mnemonic ∈ undocumentedMnemonics ∧ s.variant.undocMode = .skip ∧ exec i s = .next (defaultEnding i s s)) := by
  cases hmode : s.variant.undocMode with
  | full => exact .inl (exec_eq_answer fun _ => hmode)
  | skip =>
    by_cases h : i.mnemonic ∈ undocumentedMnemonics
    · exact .inr ⟨h, rfl, exec_of_skip h hmode⟩
    · exact .inl (exec_eq_answer fun h' => absurd h' h)

/-- PC and `cycles` apart, an instruction leaves what its effect makes, or in `skip` mode the state as it was. -/
theorem exec_eq_next {i : Instr} {s t : State} (h : exec i s = .next t) :
    ∃ u, (u = s ∨ u = effect i.mnemonic i.operand s) ∧ t = { u with pc := t.pc, cycles := t.cycles } := by
  obtain hanswer | ⟨-, -, hskip⟩ := exec_cases i s
  · rw [hanswer, Host.Outcome.next.injEq] at h
    exact ⟨_, .inr rfl, h ▸ rfl⟩
  · rw [hskip, Host.Outcome.next.injEq] at h
    exact ⟨_, .inl rfl, h ▸ rfl⟩

/-- Every instruction answers a next state (R300). -/
theorem exec_completes (i : Instr) (s : State) : ∃ t, exec i s = .next t := by
  obtain h | ⟨-, -, h⟩ := exec_cases i s
  · exact ⟨_, h⟩
  · exact ⟨_, h⟩

/-- Every step answers a next state (R300). -/
theorem step_completes (s : State) : ∃ t, step s = .next t := exec_completes _ _

/-- Settles O49: every instruction answers its `answer`, or in `skip` mode the default ending (`exec_cases`); a step is
one instruction. -/
theorem everyInstructionAndStepCompletes : Obligations.EveryInstructionAndStepCompletes :=
  ⟨exec_completes, step_completes⟩

set_option maxRecDepth 20000 in
/-- The rows `skip` mode concerns are those of its mnemonics and the undocumented NOPs (R240). -/
theorem Instr.mnemonic_of_undocumented {i : Instr} :
    i.row.documented = false → i.row.unstableStore = false → i.mnemonic ∈ Mnemonic.NOP :: undocumentedMnemonics :=
  Instr.row_of_all (P := fun r => r.documented = false → r.unstableStore = false →
    r.mnemonic ∈ Mnemonic.NOP :: undocumentedMnemonics) (by decide) i

/-- Settles O37: the row's mnemonic is NOP, which has the default ending alone (`exec_of_nop`), or one that `skip` mode
makes do so (`exec_of_skip`). -/
theorem skipModeMakesThemNops : Obligations.SkipModeMakesThemNops := by
  intro i s hdoc hstore hskip
  obtain hnop | hmem := List.mem_cons.mp (Instr.mnemonic_of_undocumented hdoc hstore)
  · exact exec_of_nop hnop s
  · exact exec_of_skip hmem hskip

end Sys2Proof.Machine
end

section
/-! Proofs for the state and memory families: which registers, flags and cells an instruction leaves as they were
(R20 to R28, R133 to R135, R180), and the canonical form of memory. -/

namespace Sys2Proof.Machine

open Sys2Proof.Safety

/-! ## The registers an effect leaves -/

/-- In memory a result leaves `A` (R180). -/
theorem State.writeResult_a {op : Operand} (h : op ≠ .acc) (s : State) (v : Byte) : (s.writeResult op v).a = s.a := by
  rw [State.writeResult_memory h, State.write_a]

theorem effect_a {mn : Mnemonic} {op : Operand} (h : mn ∉ writersOfA) (hshift : ¬(mn ∈ shifts ∧ op = .acc))
    (s : State) : (effect mn op s).a = s.a := by
  cases mn with
  | LDA | TXA | TYA | ADC | SBC | AND | ORA | EOR | PLA | SLO | RLA | SRE | RRA | ISC | LAX | ANC | ALR | ARR | USBC
  | LAS | ANE | LXA => exact absurd (by decide) h
  | ASL | LSR | ROL | ROR =>
    have hop : op ≠ .acc := fun e => hshift ⟨by decide, e⟩
    exact State.writeResult_a hop s _
  | BRK => exact State.enterTrap_a s _ _ _
  | _ => rfl

theorem effect_x {mn : Mnemonic} (h : mn ∉ writersOfX) (op : Operand) (s : State) : (effect mn op s).x = s.x := by
  cases mn with
  | LDX | TAX | TSX | INX | DEX | LAX | SBX | LAS | LXA => exact absurd (by decide) h
  | ASL | LSR | ROL | ROR => exact State.writeResult_x s op _
  | BRK => exact State.enterTrap_x s _ _ _
  | _ => rfl

theorem effect_y {mn : Mnemonic} (h : mn ∉ writersOfY) (op : Operand) (s : State) : (effect mn op s).y = s.y := by
  cases mn with
  | LDY | TAY | INY | DEY => exact absurd (by decide) h
  | ASL | LSR | ROL | ROR => exact State.writeResult_y s op _
  | BRK => exact State.enterTrap_y s _ _ _
  | _ => rfl

theorem effect_sp {mn : Mnemonic} (h : mn ∉ writersOfS) (op : Operand) (s : State) : (effect mn op s).sp = s.sp := by
  cases mn with
  | TXS | PHA | PHP | PLA | PLP | JSR | RTS | BRK | RTI | TAS | LAS => exact absurd (by decide) h
  | ASL | LSR | ROL | ROR => exact State.writeResult_sp s op _
  | _ => rfl

theorem effect_lastPC (mn : Mnemonic) (op : Operand) (s : State) : (effect mn op s).lastPC = s.lastPC := by
  cases mn with
  | ASL | LSR | ROL | ROR => exact State.writeResult_lastPC s op _
  | BRK => exact State.enterTrap_lastPC s _ _ _
  | _ => rfl

theorem effect_variant (mn : Mnemonic) (op : Operand) (s : State) : (effect mn op s).variant = s.variant := by
  cases mn with
  | ASL | LSR | ROL | ROR => exact State.writeResult_variant s op _
  | BRK => exact State.enterTrap_variant s _ _ _
  | _ => rfl

/-! ## The flags an effect leaves (R28) -/

theorem effect_flagC {mn : Mnemonic} (h : mn ∉ writersOfC) (op : Operand) (s : State) :
    (effect mn op s).flagC = s.flagC := by
  cases mn with
  | ADC | SBC | CMP | CPX | CPY | ASL | LSR | ROL | ROR | CLC | SEC | PLP | RTI | SLO | RLA | SRE | RRA | DCP | ISC
  | ANC | ALR | ARR | SBX | USBC => exact absurd (by decide) h
  | BRK => exact State.enterTrap_flagC s _ _ _
  | _ => rfl

theorem effect_flagI {mn : Mnemonic} (h : mn ∉ writersOfI) (op : Operand) (s : State) :
    (effect mn op s).flagI = s.flagI := by
  cases mn with
  | SEI | CLI | PLP | RTI | BRK => exact absurd (by decide) h
  | ASL | LSR | ROL | ROR => exact State.writeResult_flagI s op _
  | _ => rfl

theorem effect_flagD {mn : Mnemonic} (h : mn ∉ writersOfD) (op : Operand) (s : State) :
    (effect mn op s).flagD = s.flagD := by
  cases mn with
  | SED | CLD | PLP | RTI => exact absurd (by decide) h
  | ASL | LSR | ROL | ROR => exact State.writeResult_flagD s op _
  | BRK => exact State.enterTrap_flagD s _ _ _
  | _ => rfl

theorem effect_flagV {mn : Mnemonic} (h : mn ∉ writersOfV) (op : Operand) (s : State) :
    (effect mn op s).flagV = s.flagV := by
  cases mn with
  | ADC | SBC | BIT | CLV | PLP | RTI | RRA | ISC | ARR | USBC => exact absurd (by decide) h
  | ASL | LSR | ROL | ROR => exact State.writeResult_flagV s op _
  | BRK => exact State.enterTrap_flagV s _ _ _
  | _ => rfl

theorem effect_flagZ_flagN {mn : Mnemonic} (h : mn ∉ writersOfNZ) (op : Operand) (s : State) :
    (effect mn op s).flagZ = s.flagZ ∧ (effect mn op s).flagN = s.flagN := by
  cases mn with
  | BRK => exact ⟨State.enterTrap_flagZ s _ _ _, State.enterTrap_flagN s _ _ _⟩
  | STA | STX | STY | TXS | PHA | PHP | CLC | SEC | CLI | SEI | CLD | SED | CLV | JSR | RTS | JMP | JAM | NOP | SAX
  | SHA | SHX | SHY | TAS | BPL | BMI | BVC | BVS | BCC | BCS | BNE | BEQ => exact ⟨rfl, rfl⟩
  | _ => exact absurd (by decide) h

/-! ## The cells an effect stores to -/

/-- The second memory is in canonical form if the first is, and differs from it in the listed cells only. -/
def StoresOnly (cells : List Addr) (m m' : Memory) : Prop :=
  (m.wf = true → m'.wf = true) ∧ ∀ p : Addr, p ∉ cells → m'.read p.toNat = m.read p.toNat

theorem StoresOnly.refl (cells : List Addr) (m : Memory) : StoresOnly cells m m := ⟨id, fun _ _ => rfl⟩

/-- A write stores to its cell, whatever other cells are listed. -/
theorem storesOnly_write {cells : List Addr} {a : Addr} (ha : a ∈ cells) (m : Memory) (v : Byte) :
    StoresOnly cells m (m.write a.toNat v) := by
  refine ⟨fun h => Memory.write_wf h a.isLt v, fun p hp => ?_⟩
  have hne : p.toNat ≠ a.toNat := fun e => hp (BitVec.eq_of_toNat_eq e ▸ ha)
  rw [Memory.read_write, if_neg hne]

theorem StoresOnly.trans {cells : List Addr} {m m' m'' : Memory} (h : StoresOnly cells m m')
    (h' : StoresOnly cells m' m'') : StoresOnly cells m m'' :=
  ⟨h'.1 ∘ h.1, fun p hp => (h'.2 p hp).trans (h.2 p hp)⟩

/-- A pushed word stores to the two cells the stack pointer designates, one after the other (R55). -/
theorem storesOnly_pushWord {cells : List Addr} {s : State} (h : stackCell s.sp ∈ cells)
    (h' : stackCell (s.sp - 1) ∈ cells) (w : Addr) : StoresOnly cells s.mem (s.pushWord w).mem := by
  rw [stackCell_eq] at h h'
  exact (storesOnly_write h _ _).trans (storesOnly_write h' _ _)

/-- A trap entry stores to the three cells below it on the stack (R306). -/
theorem storesOnly_enterTrap {cells : List Addr} {s : State} (h : stackCell s.sp ∈ cells)
    (h' : stackCell (s.sp - 1) ∈ cells) (h'' : stackCell (s.sp - 2) ∈ cells) (ret : Addr) (b : Bool) (vector : Addr) :
    StoresOnly cells s.mem (s.enterTrap ret b vector).mem := by
  have hsp : s.sp - 2 = (s.pushWord ret).sp := (BitVec.sub_sub s.sp 1 1).symm
  rw [hsp, stackCell_eq] at h''
  exact (storesOnly_pushWord h h' ret).trans (storesOnly_write h'' _ _)

/-- An effect stores to the cells of R133 to R135, R180 and R24 only. -/
theorem effect_storesOnly (i : Instr) (s : State) :
    StoresOnly (storedCells i s) s.mem (effect i.mnemonic i.operand s).mem := by
  unfold storedCells
  generalize i.mnemonic = mn, i.operand = op
  cases mn with
  | STA | STX | STY | INC | DEC | SLO | RLA | SRE | RRA | DCP | ISC | SAX | SHA | SHX | SHY | TAS =>
    rw [if_pos (by decide)]
    exact storesOnly_write (List.mem_singleton_self _) _ _
  | ASL | LSR | ROL | ROR =>
    rw [if_neg (by decide)]
    by_cases hop : op = .acc
    · subst hop
      exact StoresOnly.refl _ _
    · rw [if_pos ⟨by decide, hop⟩, effect, State.setNZ_mem, State.setC_mem, State.writeResult_memory hop]
      exact storesOnly_write (List.mem_singleton_self _) _ _
  | PHA | PHP =>
    rw [if_neg (by decide), if_neg (fun h => absurd h.1 (by decide)), if_pos (by decide), stackCell_eq]
    exact storesOnly_write (List.mem_singleton_self _) _ _
  | JSR =>
    rw [if_neg (by decide), if_neg (fun h => absurd h.1 (by decide)), if_neg (by decide), if_pos (by decide)]
    exact storesOnly_pushWord (s := s) (by simp) (by simp) _
  | BRK =>
    rw [if_neg (by decide), if_neg (fun h => absurd h.1 (by decide)), if_neg (by decide), if_neg (by decide),
      if_pos (by decide)]
    exact storesOnly_enterTrap (s := s) (by simp) (by simp) (by simp) _ _ _
  | _ => exact StoresOnly.refl _ _

/-! ## The statements -/

/-- Settles O52: an instruction leaves what its effect makes (`exec_eq_next`), and that changes only the destinations
of its mnemonic (`effect_a` and its siblings). -/
theorem registerFrame : Obligations.RegisterFrame := by
  intro i s t h
  obtain ⟨u, rfl | rfl, ht⟩ := exec_eq_next h
  · rw [ht]
    exact ⟨fun _ _ => rfl, fun _ => rfl, fun _ => rfl, fun _ => rfl, rfl, rfl⟩
  · rw [ht]
    exact ⟨fun h hs => effect_a h hs s, fun h => effect_x h _ s, fun h => effect_y h _ s, fun h => effect_sp h _ s,
      effect_lastPC _ _ s, effect_variant _ _ s⟩

/-- Settles O53: an instruction leaves what its effect makes (`exec_eq_next`), and that changes only the flags whose
writer its mnemonic is (`effect_flagC` and its siblings). -/
theorem flagFrame : Obligations.FlagFrame := by
  intro i s t h
  obtain ⟨u, rfl | rfl, ht⟩ := exec_eq_next h
  · rw [ht]
    exact ⟨fun _ => rfl, fun _ => ⟨rfl, rfl⟩, fun _ => rfl, fun _ => rfl, fun _ => rfl⟩
  · rw [ht]
    exact ⟨fun h => effect_flagC h _ s, fun h => effect_flagZ_flagN h _ s, fun h => effect_flagI h _ s,
      fun h => effect_flagD h _ s, fun h => effect_flagV h _ s⟩

/-- An instruction stores to its `storedCells` only, and keeps the canonical form. -/
theorem exec_storesOnly {i : Instr} {s t : State} (h : exec i s = .next t) :
    StoresOnly (storedCells i s) s.mem t.mem := by
  obtain ⟨u, rfl | rfl, ht⟩ := exec_eq_next h
  · rw [ht]
    exact StoresOnly.refl _ _
  · rw [ht]
    exact effect_storesOnly i s

/-- Settles O54: an instruction stores to its `storedCells` only (`exec_storesOnly`). -/
theorem memoryFrame : Obligations.MemoryFrame := fun _ _ _ h => (exec_storesOnly h).2

/-- Settles O55: a step is one instruction on the same memory, which keeps the canonical form (`exec_storesOnly`) and
the variant (`registerFrame`). -/
theorem stepKeepsTheMemoryCanonical : Obligations.StepKeepsTheMemoryCanonical := by
  intro s t hwf hstep
  obtain ⟨-, -, -, -, -, hvariant⟩ := registerFrame _ _ _ hstep
  exact ⟨(exec_storesOnly hstep).1 hwf, hvariant⟩

/-- Settles O56: the memory at reset lists no cell (`Memory.wf_nil`). -/
theorem resetMeetsTheInvariant : Obligations.ResetMeetsTheInvariant := Memory.wf_nil

end Sys2Proof.Machine
end

section
/-! Proofs for the cost and the program counter of every instruction (R12, R30, R355), a run with a budget (R344, R345),
and JAM (R258). -/

namespace Sys2Proof.Machine

open Sys2Proof.Safety

/-! ## The cost of every instruction -/

set_option maxRecDepth 20000 in
/-- With the penalty counted, a row's cost is at least 2 and at most 8 (R355). -/
theorem Instr.cycles_bounds (i : Instr) :
    2 ≤ i.row.cycles ∧ i.row.cycles + (if i.row.pageCrossPenalty = true then 1 else 0) ≤ 8 :=
  Instr.row_of_all (P := fun r => 2 ≤ r.cycles ∧ r.cycles + (if r.pageCrossPenalty = true then 1 else 0) ≤ 8)
    (by decide) i

/-- The cost in the words of R12. -/
theorem cost_eq (r : Row) (op : Operand) (s : State) :
    cost r op s = r.cycles + (if r.pageCrossPenalty = true ∧ pageCrossed op s = true then 1 else 0) := by
  simp only [cost, Bool.and_eq_true]

/-- An instruction adds its `charge`. -/
theorem exec_cycles {i : Instr} {s t : State} (h : exec i s = .next t) :
    t.cycles = s.cycles + charge i.mnemonic i.row i.operand s := by
  obtain hanswer | ⟨hmem, -, hskip⟩ := exec_cases i s
  · rw [hanswer, Host.Outcome.next.injEq] at h
    rw [← h, answer]
  · have hbranch : i.mnemonic ∉ branches := by
      revert hmem
      generalize i.mnemonic = mn
      cases mn <;> decide
    rw [hskip, Host.Outcome.next.injEq] at h
    rw [← h, charge, if_neg hbranch, cost_eq, defaultEnding, Nat.add_assoc]

/-- The charge lies between 2 and 8. -/
theorem charge_bounds (i : Instr) (s : State) :
    2 ≤ charge i.mnemonic i.row i.operand s ∧ charge i.mnemonic i.row i.operand s ≤ 8 := by
  obtain ⟨hlow, hhigh⟩ := Instr.cycles_bounds i
  rw [charge, cost_eq]
  split
  · split
    · split <;> decide
    · decide
  · refine ⟨by omega, le_trans (Nat.add_le_add_left ?_ _) hhigh⟩
    split
    · next hpen => rw [if_pos hpen.1]
    · exact Nat.zero_le _

/-- Settles O50: an instruction adds its `charge` (`exec_cycles`), which lies between 2 and 8 (`charge_bounds`). -/
theorem costOfEveryInstruction : Obligations.CostOfEveryInstruction := by
  intro i s t h
  obtain ⟨hlow, hhigh⟩ := charge_bounds i s
  have hcycles := exec_cycles h
  refine ⟨fun hmn => ?other, fun hmn => ?branch, by omega, by omega⟩
  case other => rw [hcycles, charge, if_neg hmn, cost_eq, Nat.add_assoc]
  case branch =>
    rw [hcycles, charge, if_pos hmn]
    cases branchCondition i.mnemonic s
    · rfl
    · by_cases hpage : page (effAddr i.operand s) = page (s.pc + 2)
      · rw [if_pos hpage, if_pos hpage]
        rfl
      · rw [if_neg hpage, if_neg hpage]
        rfl

/-! ## The program counter -/

/-- A mnemonic that transfers no control continues past its instruction (R30). -/
theorem continuation_of_not_transfer {mn : Mnemonic} (h : mn ∉ controlTransfers) (op : Operand) (s : State) :
    continuation mn op s = s.pc + BitVec.ofNat 16 op.length := by
  cases mn with
  | BPL | BMI | BVC | BVS | BCC | BCS | BNE | BEQ | JMP | JSR | RTS | BRK | RTI | JAM => exact absurd (by decide) h
  | _ => rfl

/-- An instruction that transfers no control continues past itself, JAM in `skip` mode too (R30, R240). -/
theorem exec_pc {i : Instr} {s t : State} (h : exec i s = .next t)
    (hmn : i.mnemonic ∉ controlTransfers ∨ (i.mnemonic = .JAM ∧ s.variant.undocMode = .skip)) :
    t.pc = s.pc + BitVec.ofNat 16 i.operand.length := by
  obtain hmn | ⟨hjam, hskip⟩ := hmn
  · obtain hanswer | ⟨-, -, hskip⟩ := exec_cases i s
    · rw [hanswer, Host.Outcome.next.injEq] at h
      rw [← h]
      exact continuation_of_not_transfer hmn i.operand s
    · rw [hskip, Host.Outcome.next.injEq] at h
      rw [← h, defaultEnding]
  · rw [exec_of_skip (by rw [hjam]; decide) hskip, Host.Outcome.next.injEq] at h
    rw [← h, defaultEnding]

/-- Settles O51: PC is past the instruction (`exec_pc`), whose length is that of a mode; a fetch at `0xFFFF` wraps. -/
theorem pcAdvancesByTheLength : Obligations.PcAdvancesByTheLength := by
  refine ⟨fun i s t h hmn => ⟨?pc, ?length⟩, fun s hpc => ?fetch⟩
  case pc => rw [exec_pc h hmn, BitVec.toNat_add, BitVec.toNat_ofNat, Nat.add_mod_mod]
  case length =>
    rw [Operand.length]
    cases i.operand.mode <;> decide
  case fetch => rw [State.fetch, hpc]; rfl

/-! ## A run with a budget -/

/-- A step adds between 2 and 8 cycles (R345, R355). -/
theorem step_cycles {s t : State} (h : step s = .next t) : s.cycles + 2 ≤ t.cycles ∧ t.cycles ≤ s.cycles + 8 := by
  obtain ⟨-, -, hbounds⟩ := costOfEveryInstruction _ _ _ h
  exact hbounds

/-- After `k` steps from `s`, `t` is the first state whose cycle count is at least `goal`; what R344 asks of a run. -/
structure StopsAt (goal : Nat) (s : State) (k : Nat) (t : State) : Prop where
  run : Host.Core.run Sys2Proof.core k s = .next t
  steps : k ≤ goal - s.cycles
  before : ∀ j, j < k → ∃ u : State, Host.Core.run Sys2Proof.core j s = .next u ∧ u.cycles < goal
  reached : goal ≤ t.cycles
  overrun : t.cycles ≤ max s.cycles (goal + 7)

/-- Where the goal is met already, no step is taken. -/
theorem StopsAt.zero {goal : Nat} {s : State} (h : goal ≤ s.cycles) : StopsAt goal s 0 s where
  run := rfl
  steps := Nat.zero_le _
  before := fun _ hj => absurd hj (Nat.not_lt_zero _)
  reached := h
  overrun := Nat.le_max_left _ _

/-- Where the goal is not met, one step is taken first. -/
theorem StopsAt.succ {goal k : Nat} {s u t : State} (hgoal : s.cycles < goal) (hstep : step s = .next u)
    (h : StopsAt goal u k t) : StopsAt goal s (k + 1) t := by
  obtain ⟨hlow, hhigh⟩ := step_cycles hstep
  refine ⟨(core_run_succ hstep).trans h.run, ?_, fun j hj => ?_, h.reached, ?_⟩
  · have := h.steps
    omega
  · cases j with
    | zero => exact ⟨s, rfl, hgoal⟩
    | succ j =>
      obtain ⟨v, hv, hlt⟩ := h.before j (Nat.lt_of_succ_lt_succ hj)
      exact ⟨v, (core_run_succ hstep).trans hv, hlt⟩
  · have := h.overrun
    omega

/-- The loop of R344 stops where it should, if its bound leaves one iteration for each cycle of the budget. -/
theorem runLoop_stopsAt (start budget fuel : Nat) :
    ∀ s : State, start ≤ s.cycles → start + budget ≤ s.cycles + fuel →
      ∃ t k, runLoop fuel start budget s = .next t ∧ StopsAt (start + budget) s k t := by
  induction fuel with
  | zero => exact fun s _ hfuel => ⟨s, 0, rfl, StopsAt.zero hfuel⟩
  | succ fuel ih =>
    intro s hstart hfuel
    by_cases hdone : start + budget ≤ s.cycles
    · exact ⟨s, 0, runLoop_done (by omega), StopsAt.zero hdone⟩
    · obtain ⟨u, hstep⟩ := step_completes s
      obtain ⟨hlow, -⟩ := step_cycles hstep
      obtain ⟨t, k, hloop, hstops⟩ := ih u (by omega) (by omega)
      exact ⟨t, k + 1, (runLoop_step (by omega) hstep).trans hloop, hstops.succ (by omega) hstep⟩

/-- Settles O60: the loop stops at the first state that meets the budget (`runLoop_stopsAt`), after at most one step
for each cycle of it; from a state that does not meet it, that is at least one step. -/
theorem runMeetsItsBudget : Obligations.RunMeetsItsBudget := by
  intro budget s
  obtain ⟨t, k, hrun, hstops⟩ := runLoop_stopsAt s.cycles budget budget s (Nat.le_refl _) (Nat.le_refl _)
  have hsteps : k ≤ budget := by simpa using hstops.steps
  have hoverrun := hstops.overrun
  have hzero (hk : k = 0) : t = s := by
    have := hk ▸ hstops.run
    exact (Host.Outcome.next.inj this).symm
  have hpos (hbudget : 1 ≤ budget) : 1 ≤ k := by
    by_contra hk
    have hreached := hzero (by omega) ▸ hstops.reached
    omega
  exact ⟨t, k, hrun, hstops.run, hsteps, fun h => hzero (by omega), hpos, hstops.before, hstops.reached,
    fun h => by omega, fun h => le_antisymm (h ▸ hsteps) (hpos h.ge)⟩

/-! ## JAM -/

set_option maxRecDepth 20000 in
/-- The base count of JAM (R258). -/
theorem Instr.cycles_of_jam {i : Instr} : i.mnemonic = .JAM → i.row.cycles = 2 :=
  Instr.row_of_all (P := fun r => r.mnemonic = .JAM → r.cycles = 2) (by decide) i

/-- What every JAM does in `full` mode: nothing, for 2 cycles (R258). -/
theorem exec_of_jam {i : Instr} (h : i.mnemonic = .JAM) {s : State} (hfull : s.variant.undocMode = .full) :
    exec i s = .next { s with cycles := s.cycles + 2 } := by
  rw [exec_of_mnemonic h, ← Instr.cycles_of_jam h]
  exact undocumented_full hfull _ _ _

/-- A step where a JAM stands (R32, R258). -/
theorem step_of_jam {s : State} (h : (opcodeRow (s.read s.pc)).mnemonic = .JAM) (hfull : s.variant.undocMode = .full) :
    step s = .next { s with cycles := s.cycles + 2, lastPC := s.pc } := by
  have hfetch : s.fetch.mnemonic = .JAM := by rw [Instr.mnemonic, State.fetch, row_decodeBytes, h]
  rw [step_eq]
  exact exec_of_jam hfetch hfull

/-- Any number of steps where a JAM stands: each leaves the JAM where it is, and PC on it (R258). -/
theorem run_of_jam (k : Nat) :
    ∀ s : State, (opcodeRow (s.read s.pc)).mnemonic = .JAM → s.variant.undocMode = .full →
      Host.Core.run Sys2Proof.core k s =
        .next { s with cycles := s.cycles + 2 * k, lastPC := if k = 0 then s.lastPC else s.pc } := by
  induction k with
  | zero => exact fun _ _ _ => rfl
  | succ k ih =>
    intro s h hfull
    have hrest := ih { s with cycles := s.cycles + 2, lastPC := s.pc } h hfull
    refine (core_run_succ (step_of_jam h hfull)).trans (hrest.trans ?_)
    have hcycles : s.cycles + 2 + 2 * k = s.cycles + 2 * (k + 1) := by omega
    have hpc : (if k = 0 then s.pc else s.pc) = s.pc := ite_self _
    simp only [hcycles, hpc, Nat.succ_ne_zero, if_false]

set_option maxRecDepth 100000 in
/-- Settles O44: a JAM changes `cycles` alone (`exec_of_jam`), so it stands where it stood, step after step
(`run_of_jam`); the encodings are read off the opcode map. -/
theorem jamLoopsOnItself : Obligations.JamLoopsOnItself :=
  ⟨by decide, fun _ _ h hfull => exec_of_jam h hfull, run_of_jam⟩

end Sys2Proof.Machine
end

section
/-! Proofs for the variants: what depends on DECIMAL_ENABLED and UNDOC_MODE, and that nothing else does (R5, R151, R240,
R288). -/

namespace Sys2Proof.Machine

open Sys2Proof.Safety

/-! ## The state in another variant -/

/-- The same registers, flags and memory in another variant (R5). -/
def State.withVariant (s : State) (v : Variant) : State := { s with variant := v }

@[simp] theorem State.withVariant_pc (s : State) (v : Variant) : (s.withVariant v).pc = s.pc := rfl

@[simp] theorem effAddr_withVariant (op : Operand) (s : State) (v : Variant) :
    effAddr op (s.withVariant v) = effAddr op s := effAddr_congr rfl rfl rfl rfl op

@[simp] theorem operandByte_withVariant (op : Operand) (s : State) (v : Variant) :
    operandByte op (s.withVariant v) = operandByte op s := operandByte_congr rfl rfl rfl rfl rfl op

@[simp] theorem pageCrossed_withVariant (op : Operand) (s : State) (v : Variant) :
    pageCrossed op (s.withVariant v) = pageCrossed op s := pageCrossed_congr rfl rfl rfl rfl op

@[simp] theorem latchedByte_withVariant (op : Operand) (s : State) (v : Variant) :
    latchedByte op (s.withVariant v) = latchedByte op s := by
  simp only [latchedByte, pageCrossed_withVariant, effAddr_withVariant]

@[simp] theorem branchCondition_withVariant (mn : Mnemonic) (s : State) (v : Variant) :
    branchCondition mn (s.withVariant v) = branchCondition mn s := by
  cases mn <;> rfl

theorem State.writeResult_withVariant (s : State) (op : Operand) (b : Byte) (v : Variant) :
    (s.withVariant v).writeResult op b = (s.writeResult op b).withVariant v := by
  cases op <;> rfl

theorem State.enterTrap_withVariant (s : State) (ret : Addr) (b : Bool) (vector : Addr) (v : Variant) :
    (s.withVariant v).enterTrap ret b vector = (s.enterTrap ret b vector).withVariant v := by
  rw [State.enterTrap_eq, State.enterTrap_eq]
  rfl

theorem State.add_withVariant {s : State} {v : Variant} (h : (s.withVariant v).decimalMode = s.decimalMode) (m : Byte) :
    (s.withVariant v).add m = (s.add m).withVariant v := by
  rw [State.add, State.add, h]
  rfl

theorem State.sub_withVariant {s : State} {v : Variant} (h : (s.withVariant v).decimalMode = s.decimalMode) (m : Byte) :
    (s.withVariant v).sub m = (s.sub m).withVariant v := by
  rw [State.sub, State.sub, h]
  rfl

/-! ## The three parts of an answer in another variant -/

/-- Only the six decimal instructions look at the variant, at DECIMAL_ENABLED (R151). -/
theorem effect_withVariant {mn : Mnemonic} {s : State} {v : Variant}
    (hdecimal : mn ∈ decimalInstructions → (s.withVariant v).decimalMode = s.decimalMode) (op : Operand) :
    effect mn op (s.withVariant v) = (effect mn op s).withVariant v := by
  cases mn with
  | ADC => exact State.add_withVariant (hdecimal (by decide)) _
  | SBC | USBC => exact State.sub_withVariant (hdecimal (by decide)) _
  | RRA =>
    let q := rotateRight (operandByte op s) s.flagC
    exact State.add_withVariant (s := (s.write (effAddr op s) q.value).setC q.carry) (hdecimal (by decide)) q.value
  | ISC =>
    let b := operandByte op s + 1
    exact State.sub_withVariant (s := s.write (effAddr op s) b) (hdecimal (by decide)) b
  | ARR =>
    simp only [effect, hdecimal (by decide), operandByte_withVariant]
    rfl
  | ASL | LSR | ROL | ROR =>
    simp only [effect, operandByte_withVariant, State.writeResult_withVariant]
    rfl
  | BRK => exact State.enterTrap_withVariant s _ _ _ v
  | _ => rfl

theorem continuation_withVariant (mn : Mnemonic) (op : Operand) (s : State) (v : Variant) :
    continuation mn op (s.withVariant v) = continuation mn op s := by
  cases mn with
  | BRK =>
    have h := congrArg State.pc (State.enterTrap_withVariant s (s.pc + 2) true irqVector v)
    exact h
  | _ => rfl

theorem charge_withVariant (mn : Mnemonic) (r : Row) (op : Operand) (s : State) (v : Variant) :
    charge mn r op (s.withVariant v) = charge mn r op s := by
  simp only [charge, cost, branchCondition_withVariant, effAddr_withVariant, pageCrossed_withVariant,
    State.withVariant_pc]

/-- No instruction changes the variant. -/
theorem exec_variant {i : Instr} {s t : State} (h : exec i s = .next t) : t.variant = s.variant := by
  obtain ⟨-, -, -, -, -, hvariant⟩ := registerFrame i s t h
  exact hvariant

/-- Setting the variant before an instruction or after it comes to the same, if the instruction looks at neither
parameter that changes: UNDOC_MODE concerns the mnemonics of R240 only, decimal mode the six decimal instructions. -/
theorem exec_withVariant {i : Instr} {s : State} {v : Variant}
    (hmode : i.mnemonic ∈ undocumentedMnemonics → v.undocMode = s.variant.undocMode)
    (hdecimal : i.mnemonic ∈ decimalInstructions → (s.withVariant v).decimalMode = s.decimalMode) :
    exec i (s.withVariant v) = mapNext (fun t => t.withVariant v) (exec i s) := by
  by_cases hskip : i.mnemonic ∈ undocumentedMnemonics ∧ s.variant.undocMode = .skip
  · obtain ⟨hmem, hskip⟩ := hskip
    rw [exec_of_skip hmem hskip, exec_of_skip hmem ((hmode hmem).trans hskip), mapNext, defaultEnding, defaultEnding,
      pageCrossed_withVariant]
    rfl
  · have hfull (hmem : i.mnemonic ∈ undocumentedMnemonics) : s.variant.undocMode = .full := by
      cases h : s.variant.undocMode with
      | full => rfl
      | skip => exact absurd ⟨hmem, h⟩ hskip
    rw [exec_eq_answer hfull, exec_eq_answer fun hmem => (hmode hmem).trans (hfull hmem), mapNext, answer, answer,
      effect_withVariant hdecimal, continuation_withVariant, charge_withVariant]
    rfl

/-- The same for a change of one parameter, the other as the instruction leaves it: it leaves both. -/
theorem exec_updateVariant {i : Instr} {s : State} {f : Variant → Variant}
    (hmode : i.mnemonic ∈ undocumentedMnemonics → (f s.variant).undocMode = s.variant.undocMode)
    (hdecimal : i.mnemonic ∈ decimalInstructions → (s.withVariant (f s.variant)).decimalMode = s.decimalMode) :
    exec i (s.withVariant (f s.variant)) = mapNext (fun t => t.withVariant (f t.variant)) (exec i s) := by
  obtain ⟨t, ht⟩ := exec_completes i s
  rw [exec_withVariant hmode hdecimal, ht, mapNext, mapNext, exec_variant ht]

/-! ## The statements -/

/-- Settles O47: DECIMAL_ENABLED is no part of UNDOC_MODE, and where D is clear no part of decimal mode
(`exec_updateVariant`). -/
theorem decimalVariantsAgreeElsewhere : Obligations.DecimalVariantsAgreeElsewhere := by
  intro i s b h
  refine exec_updateVariant (f := fun v => { v with decimalEnabled := b }) (fun _ => rfl) fun hmem => ?_
  obtain hother | hD := h
  · exact absurd hmem hother
  · simp only [State.decimalMode, State.withVariant, hD, Bool.false_and]

set_option maxRecDepth 20000 in
/-- UNDOC_MODE concerns no documented row (R240). -/
theorem Instr.not_undocumented_of_documented {i : Instr} :
    i.row.documented = true → i.mnemonic ∉ undocumentedMnemonics :=
  Instr.row_of_all (P := fun r => r.documented = true → r.mnemonic ∉ undocumentedMnemonics) (by decide) i

/-- The mnemonics of the five opcodes of R83. -/
theorem Instr.mnemonic_of_unstable {i : Instr} (h : i.opcode ∈ [0x93, 0x9F, 0x9E, 0x9C, 0x9B]) :
    i.mnemonic ∈ [Mnemonic.SHA, .SHX, .SHY, .TAS] := by
  rw [Instr.mnemonic, Instr.row]
  simp only [List.mem_cons, List.not_mem_nil, or_false] at h
  obtain h | h | h | h | h := h
  all_goals rw [h]; decide

/-- No unstable store looks at the variant (R288). -/
theorem not_undocumented_not_decimal_of_unstable {mn : Mnemonic} (h : mn ∈ [Mnemonic.SHA, .SHX, .SHY, .TAS]) :
    mn ∉ undocumentedMnemonics ∧ mn ∉ decimalInstructions := by
  revert h
  cases mn <;> decide

/-- Settles O48: the unstable stores are neither of R240 nor decimal instructions, and UNDOC_MODE is no part of
decimal mode and concerns no documented row (`exec_withVariant`, `exec_updateVariant`). -/
theorem unstableStoresAreVariantIndependent : Obligations.UnstableStoresAreVariantIndependent := by
  refine ⟨fun i s v h => ?unstable, fun i s u hdoc => ?documented⟩
  case unstable =>
    obtain ⟨hmode, hdecimal⟩ := not_undocumented_not_decimal_of_unstable (Instr.mnemonic_of_unstable h)
    exact exec_withVariant (fun hmem => absurd hmem hmode) fun hmem => absurd hmem hdecimal
  case documented =>
    exact exec_updateVariant (f := fun v => { v with undocMode := u })
      (fun hmem => absurd hmem (Instr.not_undocumented_of_documented hdoc)) fun _ => rfl

end Sys2Proof.Machine
end

section
/-! Proofs for the state and arithmetic families: the status image (R11, R26, R27), binary and decimal addition and
subtraction (R150 to R153, R161, R162). -/

namespace Sys2Proof.Machine

open Sys2Proof.Safety

/-! ## The status image -/

/-- The image as a number: each flag at the place of its bit (R11). -/
theorem State.toNat_statusImage (s : State) (b : Bool) :
    (s.statusImage b).toNat = s.flagN.toNat * 128 + s.flagV.toNat * 64 + 32 + b.toNat * 16 + s.flagD.toNat * 8 +
      s.flagI.toNat * 4 + s.flagZ.toNat * 2 + s.flagC.toNat := by
  rw [State.statusImage]
  generalize s.flagN = n, s.flagV = v, s.flagD = d, s.flagI = i, s.flagZ = z, s.flagC = c
  revert n v b d i z c
  decide

/-- `setP` looks at neither bit 5 nor bit 4 (R27). -/
theorem State.setStatus_and (s : State) (v : Byte) : s.setStatus (v &&& 0xCF) = s.setStatus v := by
  simp [State.setStatus]

/-- `setP` of the image changes nothing. -/
theorem State.setStatus_statusImage (s : State) (b : Bool) : s.setStatus (s.statusImage b) = s := by
  simp [State.setStatus]

/-- The image after `setP` is the byte with bit 5 set and bit 4 as asked for (R26). -/
theorem State.statusImage_setStatus (s : State) (v : Byte) (b : Bool) :
    (s.setStatus v).statusImage b = (v &&& 0xCF) ||| 0x20 ||| (if b then 0x10 else 0x00) := by
  obtain ⟨k⟩ := v
  simp only [State.statusImage, State.setStatus]
  revert k b
  decide +kernel

/-- Settles O7: the image as a number is `State.toNat_statusImage`; `setP` looks at the bits `0xCF` keeps
(`State.setStatus_and`), and each undoes the other (`State.setStatus_statusImage`, `State.statusImage_setStatus`). -/
theorem statusImageAndLoad : Obligations.StatusImageAndLoad := by
  refine ⟨State.toNat_statusImage, fun s v w h => ?load, State.setStatus_statusImage, State.statusImage_setStatus⟩
  case load => rw [← State.setStatus_and s v, h, State.setStatus_and]

/-! ## Binary addition and subtraction -/

/-- A byte read as two's complement. -/
theorem toInt_eq (v : Byte) : v.toInt = if v.toNat < 128 then (v.toNat : Int) else (v.toNat : Int) - 256 := by
  rw [BitVec.toInt_eq_toNat_cond]
  simp only [show 2 * v.toNat < 2 ^ 8 ↔ v.toNat < 128 by omega]
  rfl

/-- N of a sum. -/
theorem msb_ofNat_iff (n : Nat) : (BitVec.ofNat 8 n).msb = true ↔ n % 256 ≥ 128 := by
  rw [BitVec.msb_eq_decide, BitVec.toNat_ofNat, decide_eq_true_iff]

/-- Z of a sum. -/
theorem ofNat_eq_zero_iff (n : Nat) : BitVec.ofNat 8 n = 0 ↔ n % 256 = 0 := by
  rw [← BitVec.toNat_inj, BitVec.toNat_ofNat]
  rfl

/-- The overflow rule of R161 on numbers: neither operand has the sign of the sum. -/
theorem overflow_msb_iff (a m : Byte) (n : Nat) :
    ((a ^^^ BitVec.ofNat 8 n) &&& (m ^^^ BitVec.ofNat 8 n)).msb = true ↔
      ¬(a.toNat ≥ 128 ↔ n % 256 ≥ 128) ∧ ¬(m.toNat ≥ 128 ↔ n % 256 ≥ 128) := by
  rw [BitVec.msb_and, BitVec.msb_xor, BitVec.msb_xor, BitVec.msb_eq_decide a, BitVec.msb_eq_decide m,
    BitVec.msb_eq_decide, BitVec.toNat_ofNat, Bool.and_eq_true, bne_iff_ne, bne_iff_ne, Ne, Ne, decide_eq_decide,
    decide_eq_decide]

/-- V of a binary addition: the sum of the operands read as two's complement is out of range (R161). -/
theorem addBinary_v_iff (a m : Byte) (c : Bool) :
    (addBinary a m c).v = true ↔
      (a.toInt + m.toInt + (c.toNat : Int) < -128 ∨ a.toInt + m.toInt + (c.toNat : Int) > 127) := by
  have ha := a.isLt
  have hm := m.isLt
  have hc := c.toNat_le
  rw [addBinary, overflow_msb_iff, toInt_eq, toInt_eq]
  split <;> split <;> omega

/-- Settles O16: each flag is read off the nine-bit sum, V by `addBinary_v_iff`. -/
theorem addBinaryIsTheNineBitSum : Obligations.AddBinaryIsTheNineBitSum := by
  intro a m c
  exact ⟨BitVec.toNat_ofNat _ _, decide_eq_true_iff, addBinary_v_iff a m c, msb_ofNat_iff _,
    decide_eq_true_iff.trans (ofNat_eq_zero_iff _)⟩

/-! ## Decimal addition -/

/-- The high nibble in its place, as a number. -/
theorem toNat_and_highNibble (v : Byte) : (v &&& 0xF0).toNat = v.toNat / 16 * 16 := by
  obtain ⟨k⟩ := v
  revert k
  decide +kernel

/-- The low digit of a decimal addition, with the decimal carry in its place (R161). -/
def decimalLow (a m : Byte) (c : Bool) : Nat :=
  let low := a.toNat % 16 + m.toNat % 16 + c.toNat
  if low ≥ 10 then (low + 6) % 16 + 16 else low

/-- The sum of a decimal addition before its high digit is corrected (R161). -/
def decimalSum (a m : Byte) (c : Bool) : Nat := a.toNat / 16 * 16 + m.toNat / 16 * 16 + decimalLow a m c

/-- The sum with its high digit corrected (R161). -/
def decimalFixed (a m : Byte) (c : Bool) : Nat :=
  if decimalSum a m c ≥ 0xA0 then decimalSum a m c + 0x60 else decimalSum a m c

theorem decimalLow_le (a m : Byte) (c : Bool) : decimalLow a m c ≤ 31 := by
  rw [decimalLow]
  split <;> omega

/-- V of a decimal addition: the signed sum of the high nibbles in their places and the low digit is out of range. -/
theorem overflow_decimalSum_iff (a m : Byte) (c : Bool) :
    ((a ^^^ BitVec.ofNat 8 (decimalSum a m c)) &&& (m ^^^ BitVec.ofNat 8 (decimalSum a m c))).msb = true ↔
      ((a &&& 0xF0).toInt + (m &&& 0xF0).toInt + (decimalLow a m c : Int) < -128 ∨
        (a &&& 0xF0).toInt + (m &&& 0xF0).toInt + (decimalLow a m c : Int) > 127) := by
  have ha := a.isLt
  have hm := m.isLt
  have hlow := decimalLow_le a m c
  rw [overflow_msb_iff, toInt_eq, toInt_eq, toNat_and_highNibble, toNat_and_highNibble, decimalSum]
  split <;> split <;> omega

/-- A decimal addition on numbers (R161). -/
theorem addDecimal_eq (a m : Byte) (c : Bool) :
    addDecimal a m c =
      { value := BitVec.ofNat 8 (decimalFixed a m c)
        n := (BitVec.ofNat 8 (decimalSum a m c)).msb
        v := ((a ^^^ BitVec.ofNat 8 (decimalSum a m c)) &&& (m ^^^ BitVec.ofNat 8 (decimalSum a m c))).msb
        z := decide (BitVec.ofNat 8 (a.toNat + m.toNat + c.toNat) = 0)
        c := decide (decimalFixed a m c ≥ 0x100) } := by
  have hv := Bool.eq_iff_iff.mpr ((overflow_decimalSum_iff a m c).trans decide_eq_true_iff.symm)
  rw [hv]
  simp only [addDecimal, toNat_and_highNibble, lowNibble]
  rfl

/-- On decimal digits the sum before correction holds a low digit and the tens of the decimal sum in its nibbles. -/
theorem decimalSum_of_bcd {a m : Byte} (ha : isBcd a) (hm : isBcd m) (c : Bool) :
    ∃ tens ones, tens ≤ 19 ∧ ones ≤ 9 ∧ decimalSum a m c = 16 * tens + ones ∧
      bcdValue a + bcdValue m + c.toNat = 10 * tens + ones := by
  obtain ⟨hah, hal⟩ := ha
  obtain ⟨hmh, hml⟩ := hm
  have hc := c.toNat_le
  simp only [decimalSum, decimalLow, bcdValue]
  split
  · exact ⟨a.toNat / 16 + m.toNat / 16 + 1, a.toNat % 16 + m.toNat % 16 + c.toNat - 10, by omega⟩
  · exact ⟨a.toNat / 16 + m.toNat / 16, a.toNat % 16 + m.toNat % 16 + c.toNat, by omega⟩

/-- The byte of the two last digits of a number. -/
theorem toNat_packBcd (tens : Nat) {ones : Nat} (h : ones ≤ 9) :
    (packBcd ((10 * tens + ones) % 100)).toNat = 16 * (tens % 10) + ones := by
  have hmod : (10 * tens + ones) % 100 = 10 * (tens % 10) + ones := by omega
  have htens : (10 * (tens % 10) + ones) / 10 = tens % 10 := by omega
  have hones : (10 * (tens % 10) + ones) % 10 = ones := by omega
  rw [packBcd, hmod, htens, hones, BitVec.toNat_ofNat]
  omega

/-- On decimal digits the corrected sum holds the two digits of the decimal sum, and carries from 100 on. -/
theorem decimalFixed_of_bcd {a m : Byte} (ha : isBcd a) (hm : isBcd m) (c : Bool) :
    BitVec.ofNat 8 (decimalFixed a m c) = packBcd ((bcdValue a + bcdValue m + c.toNat) % 100) ∧
      (decimalFixed a m c ≥ 0x100 ↔ bcdValue a + bcdValue m + c.toNat ≥ 100) := by
  obtain ⟨tens, ones, htens, hones, hsum, hbcd⟩ := decimalSum_of_bcd ha hm c
  rw [hbcd, decimalFixed, hsum]
  refine ⟨BitVec.eq_of_toNat_eq ?_, by split <;> omega⟩
  rw [toNat_packBcd tens hones, BitVec.toNat_ofNat]
  split <;> omega

/-- Settles O17: a decimal addition on numbers is `addDecimal_eq`, and on decimal digits its sum is
`decimalFixed_of_bcd`. -/
theorem addDecimalAddsDecimalDigits : Obligations.AddDecimalAddsDecimalDigits := by
  refine ⟨fun a m c ha hm => ?bcd, fun a m c => ?all⟩
  case bcd =>
    obtain ⟨hvalue, hcarry⟩ := decimalFixed_of_bcd ha hm c
    rw [addDecimal_eq]
    exact ⟨hvalue, decide_eq_true_iff.trans hcarry⟩
  case all =>
    rw [addDecimal_eq]
    exact ⟨msb_ofNat_iff _, BitVec.msb_eq_getLsbD_last (_ : Byte), decide_eq_true_iff.trans (ofNat_eq_zero_iff _),
      BitVec.toNat_ofNat _ _, decide_eq_true_iff⟩

/-! ## Subtraction -/

/-- The complement of a byte, as a number. -/
theorem toNat_xor_ff (m : Byte) : (m ^^^ 0xFF).toNat = 255 - m.toNat := by
  obtain ⟨k⟩ := m
  revert k
  decide +kernel

/-- The complement of a byte has the other sign. -/
theorem toInt_xor_ff (m : Byte) : (m ^^^ 0xFF).toInt = -1 - m.toInt := by
  have hm := m.isLt
  rw [toInt_eq, toInt_eq, toNat_xor_ff]
  split <;> split <;> omega

/-- The overflow rule of SUB is that of ADD on the complement (R162). -/
theorem overflow_xor_ff (a m r : Byte) : (a ^^^ m) &&& (a ^^^ r) = (a ^^^ r) &&& ((m ^^^ 0xFF) ^^^ r) := by
  have hbit : ∀ a m r : Bool, ((a ^^ m) && (a ^^ r)) = ((a ^^ r) && ((m ^^ true) ^^ r)) := by decide
  have hones (k : Nat) (hk : k < 8) : (0xFF : Byte)[k] = true := by
    revert k
    decide
  ext k hk
  simp only [BitVec.getElem_and, BitVec.getElem_xor, hones k hk]
  exact hbit _ _ _

/-- In binary mode SUB is ADD on the complement (R162). -/
theorem subtract_false (a m : Byte) (c : Bool) : subtract false a m c = addBinary a (m ^^^ 0xFF) c := by
  rw [subtract, addBinary, overflow_xor_ff]
  rfl

/-- The four flags of SUB are those of the binary subtraction in both modes (R162). -/
theorem subtract_flags (decimal : Bool) (a m : Byte) (c : Bool) :
    subtract decimal a m c = { addBinary a (m ^^^ 0xFF) c with value := (subtract decimal a m c).value } := by
  rw [← subtract_false]
  rfl

/-- The difference of the operands with the low nibble corrected, before the high one is (R162). -/
def decimalDifference (a m : Byte) (c : Bool) : Int :=
  let al : Int := (a.toNat : Int) % 16 - (m.toNat : Int) % 16 + (c.toNat : Int) - 1
  (a.toNat : Int) / 16 * 16 - (m.toNat : Int) / 16 * 16 + (if al < 0 then (al - 6) % 16 - 16 else al)

/-- The value of SUB in decimal mode on numbers (R162). -/
theorem toNat_subDecimalValue (a m : Byte) (c : Bool) :
    ((subDecimalValue a m c).toNat : Int) =
      (if decimalDifference a m c < 0 then decimalDifference a m c - 0x60 else decimalDifference a m c) % 256 := by
  have hhigh (v : Byte) : ((v &&& 0xF0).toNat : Int) = (v.toNat : Int) / 16 * 16 := by
    rw [toNat_and_highNibble, Int.natCast_mul, Int.natCast_ediv]
    rfl
  have hlow (v : Byte) : (lowNibble v : Int) = (v.toNat : Int) % 16 := Int.natCast_mod _ _
  simp only [subDecimalValue, hhigh, hlow, BitVec.toNat_ofInt]
  exact Int.toNat_of_nonneg (Int.emod_nonneg _ (by decide))

/-- On decimal digits the difference holds its low digit and its tens, counted from -10, in its nibbles. -/
theorem decimalDifference_of_bcd {a m : Byte} (ha : isBcd a) (hm : isBcd m) (c : Bool) :
    ∃ tens ones : Nat, tens ≤ 19 ∧ ones ≤ 9 ∧ decimalDifference a m c = 16 * ((tens : Int) - 10) + ones ∧
      bcdValue a + 99 + c.toNat - bcdValue m = 10 * tens + ones := by
  obtain ⟨hah, hal⟩ := ha
  obtain ⟨hmh, hml⟩ := hm
  have hc := c.toNat_le
  simp only [decimalDifference, bcdValue]
  split
  · exact ⟨a.toNat / 16 + 9 - m.toNat / 16, a.toNat % 16 + 9 + c.toNat - m.toNat % 16, by omega⟩
  · exact ⟨a.toNat / 16 + 10 - m.toNat / 16, a.toNat % 16 + c.toNat - 1 - m.toNat % 16, by omega⟩

/-- On decimal digits SUB in decimal mode gives the two digits of the difference modulo 100. -/
theorem subDecimalValue_of_bcd {a m : Byte} (ha : isBcd a) (hm : isBcd m) (c : Bool) :
    subDecimalValue a m c = packBcd ((bcdValue a + 99 + c.toNat - bcdValue m) % 100) := by
  obtain ⟨tens, ones, htens, hones, hdiff, hbcd⟩ := decimalDifference_of_bcd ha hm c
  have hvalue := toNat_subDecimalValue a m c
  apply BitVec.eq_of_toNat_eq
  rw [hbcd, toNat_packBcd tens hones]
  rw [hdiff] at hvalue
  split at hvalue <;> omega

/-- Settles O18: the flags are those of the binary addition of the complement (`subtract_flags`), which is a
subtraction by `toNat_xor_ff` and `toInt_xor_ff`; the decimal value is `toNat_subDecimalValue`, on decimal digits
`subDecimalValue_of_bcd`. -/
theorem subtractBorrowsAndKeepsBinaryFlags : Obligations.SubtractBorrowsAndKeepsBinaryFlags := by
  refine ⟨fun decimal a m c => ?binary, subtract_false, toNat_subDecimalValue,
    fun a m c ha hm => subDecimalValue_of_bcd ha hm c⟩
  case binary =>
    intro d e
    have hm := m.isLt
    rw [subtract_flags]
    refine ⟨decide_eq_true_iff.trans ?carry, (addBinary_v_iff _ _ _).trans ?v, (msb_ofNat_iff _).trans ?n,
      decide_eq_true_iff.trans ((ofNat_eq_zero_iff _).trans ?z), fun hbinary => ?value⟩
    case carry => rw [toNat_xor_ff]; omega
    case v => rw [toInt_xor_ff]; omega
    case n => rw [toNat_xor_ff]; omega
    case z => rw [toNat_xor_ff]; omega
    case value =>
      rw [hbinary, subtract_false, addBinary, BitVec.toNat_ofNat, toNat_xor_ff]
      omega

end Sys2Proof.Machine
end

section
/-! Proofs for the arithmetic and stable undocumented families: ADC and SBC (R152, R153), RRA, DCP and ISC (R244 to
R246), ARR and USBC (R251, R253), ANE and LXA (R255, R256). -/

namespace Sys2Proof.Machine

open Sys2Proof.Safety

/-! ## ADC and SBC -/

/-- Decimal mode in the words of R151. -/
theorem State.decimalMode_iff (s : State) :
    s.decimalMode = true ↔ s.flagD = true ∧ s.variant.decimalEnabled = true :=
  Bool.and_eq_true_iff

theorem State.decimalMode_eq (s : State) :
    s.decimalMode = decide (s.flagD = true ∧ s.variant.decimalEnabled = true) :=
  Bool.eq_iff_iff.mpr (s.decimalMode_iff.trans decide_eq_true_iff.symm)

/-- What every ADC does: `ADD(M)` (R152). -/
theorem exec_of_adc {i : Instr} (h : i.mnemonic = .ADC) (s : State) :
    exec i s = .next (defaultEnding i s (s.add (operandByte i.operand s))) :=
  (exec_of_mnemonic h s).trans (complete_eq_defaultEnding i s _)

/-- What every SBC does: `SUB(M)` (R153). -/
theorem exec_of_sbc {i : Instr} (h : i.mnemonic = .SBC) (s : State) :
    exec i s = .next (defaultEnding i s (s.sub (operandByte i.operand s))) :=
  (exec_of_mnemonic h s).trans (complete_eq_defaultEnding i s _)

set_option maxRecDepth 100000 in
/-- Settles O19: ADC and SBC end by default on `ADD(M)` and `SUB(M)` (`exec_of_adc`, `exec_of_sbc`), decimal by R151
(`State.decimalMode_eq`); the encodings are read off the opcode map. -/
theorem adcAndSbcUpdateTheAccumulator : Obligations.AdcAndSbcUpdateTheAccumulator := by
  refine ⟨⟨by decide, by decide⟩, fun i s => ⟨fun h => ?adc, fun h => ?sbc⟩⟩
  case adc =>
    rw [exec_of_adc h, State.add, if_congr s.decimalMode_iff rfl rfl]
    rfl
  case sbc =>
    rw [exec_of_sbc h, State.sub, State.decimalMode_eq]
    rfl

/-! ## RRA, DCP and ISC -/

set_option maxRecDepth 20000 in
/-- RRA, DCP and ISC have memory forms only (R244 to R246). -/
theorem Instr.mode_of_arithmeticCombination {i : Instr} (h : i.mnemonic ∈ [Mnemonic.RRA, .DCP, .ISC]) :
    i.operand.mode ∉ [Mode.imp, .acc, .imm] := by
  rw [i.mode_eq]
  exact Instr.row_of_all (P := fun r => r.mnemonic ∈ [Mnemonic.RRA, .DCP, .ISC] → r.mode ∉ [Mode.imp, .acc, .imm])
    (by decide) i h

/-- What every RRA does: the rotated byte to the cell at `ea`, and added to `A` with the bit rotated out (R244). -/
theorem exec_of_rra {i : Instr} (h : i.mnemonic = .RRA) {s : State} (hfull : s.variant.undocMode = .full) {q : Shifted}
    (hq : rotateRight (s.read (effAddr i.operand s)) s.flagC = q) :
    exec i s = .next (defaultEnding i s (((s.write (effAddr i.operand s) q.value).setC q.carry).add q.value)) := by
  apply exec_of_undocumented hfull
  rw [← hq, ← operandByte_of_mode (Instr.mode_of_arithmeticCombination (by simp [h])), h]
  rfl

/-- What every DCP does: the byte one down to the cell at `ea`, and compared with `A` (R245). -/
theorem exec_of_dcp {i : Instr} (h : i.mnemonic = .DCP) {s : State} (hfull : s.variant.undocMode = .full) {v : Byte}
    (hv : s.read (effAddr i.operand s) - 1 = v) :
    exec i s = .next (defaultEnding i s ((s.write (effAddr i.operand s) v).compare s.a v)) := by
  apply exec_of_undocumented hfull
  rw [← hv, ← operandByte_of_mode (Instr.mode_of_arithmeticCombination (by simp [h])), h]
  rfl

/-- What every ISC does: the byte one up to the cell at `ea`, and subtracted from `A` (R246). -/
theorem exec_of_isc {i : Instr} (h : i.mnemonic = .ISC) {s : State} (hfull : s.variant.undocMode = .full) {v : Byte}
    (hv : s.read (effAddr i.operand s) + 1 = v) :
    exec i s = .next (defaultEnding i s ((s.write (effAddr i.operand s) v).sub v)) := by
  apply exec_of_undocumented hfull
  rw [← hv, ← operandByte_of_mode (Instr.mode_of_arithmeticCombination (by simp [h])), h]
  rfl

set_option maxRecDepth 100000 in
/-- Settles O39: each is its `exec_of_` lemma with the byte as a number (`rotateRight_eq`, `sub_one_eq`, `add_one_eq`),
decimal by R151 (`State.decimalMode_eq`); the encodings are read off the opcode map. -/
theorem rotateAddAndIncrementSubtract : Obligations.RotateAddAndIncrementSubtract := by
  refine ⟨⟨by decide, by decide, by decide⟩, fun i s hfull => ⟨fun h => ?rra, fun h => ?dcp, fun h => ?isc⟩⟩
  case rra =>
    rw [exec_of_rra h hfull (rotateRight_eq _ _), State.add, State.decimalMode_eq]
    rfl
  case dcp =>
    rw [exec_of_dcp h hfull (sub_one_eq _), State.compare_eq]
  case isc =>
    rw [exec_of_isc h hfull (add_one_eq _), State.sub, State.decimalMode_eq]
    rfl

/-! ## ARR and USBC -/

/-- ARR in binary mode on numbers (R251). -/
theorem arrResult_false (t : Byte) (c : Bool) :
    arrResult false t c =
      let r := t.toNat / 2 + 128 * c.toNat
      { value := BitVec.ofNat 8 r
        n := decide (r ≥ 128)
        v := decide (r / 2 ^ 6 % 2 ≠ r / 2 ^ 5 % 2)
        z := decide (r = 0)
        c := decide (r / 2 ^ 6 % 2 = 1) } := by
  obtain ⟨k⟩ := t
  revert k c
  decide +kernel

/-- ARR in decimal mode on numbers (R251). -/
theorem arrResult_true (t : Byte) (c : Bool) :
    arrResult true t c =
      let r := t.toNat / 2 + 128 * c.toNat
      let r1 := if t.toNat % 16 + t.toNat / 2 ^ 0 % 2 > 5 then r / 16 * 16 + (r + 6) % 16 else r
      let fix := decide (t.toNat / 16 + t.toNat / 2 ^ 4 % 2 > 5)
      { value := BitVec.ofNat 8 (if fix = true then r1 + 0x60 else r1)
        n := c
        v := decide (t.toNat / 2 ^ 6 % 2 ≠ r / 2 ^ 6 % 2)
        z := decide (r = 0)
        c := fix } := by
  obtain ⟨k⟩ := t
  revert k c
  decide +kernel

/-- What ARR does (R251). -/
theorem exec_arrImm (d : Byte) {s : State} (hfull : s.variant.undocMode = .full) :
    exec (.arrImm d) s = .next { s.putSum (arrResult s.decimalMode (s.a &&& d) s.flagC) with
      pc := s.pc + 2, cycles := s.cycles + 2 } :=
  exec_of_undocumented hfull rfl

/-- What USBC does: the same as SBC immediate (R253). -/
theorem exec_usbcImm (d : Byte) {s : State} (hfull : s.variant.undocMode = .full) :
    exec (.usbcImm d) s = exec (.sbcImm d) s :=
  calc exec (.usbcImm d) s
      = .next (defaultEnding (.usbcImm d) s (s.sub d)) := exec_of_undocumented hfull rfl
    _ = exec (.sbcImm d) s := (exec_of_sbc (i := .sbcImm d) rfl s).symm

set_option maxRecDepth 100000 in
/-- Settles O42: USBC is `exec_usbcImm`, ARR `exec_arrImm` with its result as numbers (`arrResult_true`,
`arrResult_false`) by the mode of R151; the encodings are read off the opcode map. -/
theorem arrAndUsbcUseTheAdder : Obligations.ArrAndUsbcUseTheAdder := by
  refine ⟨⟨by decide, by decide⟩, fun d s hfull => ⟨exec_usbcImm d hfull, ?_⟩⟩
  intro t r bit
  split
  · next hdecimal =>
    rw [exec_arrImm d hfull, s.decimalMode_iff.mpr hdecimal, arrResult_true]
    rfl
  · next hbinary =>
    rw [exec_arrImm d hfull, Bool.eq_false_iff.mpr (s.decimalMode_iff.not.mpr hbinary), arrResult_false]
    rfl

/-! ## ANE and LXA -/

/-- What ANE does (R255). -/
theorem exec_aneImm (d : Byte) {s : State} (hfull : s.variant.undocMode = .full) :
    exec (.aneImm d) s = .next { s.loadA ((s.a ||| Config.aneMagic) &&& s.x &&& d) with
      pc := s.pc + 2, cycles := s.cycles + 2 } :=
  exec_of_undocumented hfull rfl

/-- What LXA does (R256). -/
theorem exec_lxaImm (d : Byte) {s : State} (hfull : s.variant.undocMode = .full) :
    exec (.lxaImm d) s = .next { (s.loadA ((s.a ||| Config.lxaMagic) &&& d)).setX ((s.a ||| Config.lxaMagic) &&& d) with
      pc := s.pc + 2, cycles := s.cycles + 2 } :=
  exec_of_undocumented hfull rfl

set_option maxRecDepth 100000 in
/-- Settles O43: ANE and LXA are `exec_aneImm` and `exec_lxaImm`; an operand of no bit, or all bits of `A`, leaves
the constant of ANE no bit to decide; the encodings are read off the opcode map. -/
theorem aneAndLxaUseTheUnknownConstants : Obligations.AneAndLxaUseTheUnknownConstants := by
  refine ⟨⟨by decide, by decide⟩, fun d s hfull => ⟨?ane, ?lxa, fun hd => ⟨_, exec_aneImm d hfull, ?zero⟩,
    fun ha => ⟨_, exec_aneImm d hfull, ?ones⟩⟩⟩
  case ane =>
    rw [exec_aneImm d hfull, State.loadA_eq]
  case lxa =>
    rw [exec_lxaImm d hfull, State.loadA_eq]
    rfl
  case zero =>
    subst hd
    exact BitVec.and_zero
  case ones =>
    have hall : (0xFF : Byte) ||| Config.aneMagic = 0xFF := BitVec.allOnes_or
    have hand (v : Byte) : 0xFF &&& v = v := BitVec.allOnes_and
    rw [State.loadA_a, ha, hall, hand]

end Sys2Proof.Machine
end

section
/-! Proofs for the control-flow, stack and system families: JSR (R192), the branches (R194 to R202), PHA, PHP, PLA
and PLP (R210 to R213), BRK and RTI (R230, R231, R306, R307). -/

namespace Sys2Proof.Machine

open Sys2Proof.Safety

/-! ## Small steps of the stack pointer -/

/-- Moving the stack pointer down twice by one is moving it down by two. -/
theorem sub_one_sub_one (v : Byte) : v - 1 - 1 = v - 2 := BitVec.sub_sub v 1 1

/-- Moving the stack pointer down three times by one is moving it down by three. -/
theorem sub_one_sub_one_sub_one (v : Byte) : v - 1 - 1 - 1 = v - 3 := by rw [sub_one_sub_one, BitVec.sub_sub]; rfl

/-- The cells of two pushes in a row differ. -/
theorem stackAddr_ne_stackAddr_sub_one (sp : Byte) : stackAddr sp ≠ stackAddr (sp - 1) :=
  stackAddr_inj.not.mpr (by bv_omega)

/-! ## JSR -/

/-- What JSR does: the word `pc0 + 2` is pushed, then the third byte is read (R192). -/
theorem exec_jsrAbs (w : Addr) (s : State) :
    exec (.jsrAbs w) s = .next { s.pushWord (s.pc + 2) with
      pc := joinBytes ((s.pushWord (s.pc + 2)).read (s.pc + 2)) (lowByte w)
      cycles := s.cycles + 6 } := rfl

/-- The third byte after the pushes, by where they land. -/
theorem State.read_pushWord_stackCell (s : State) (w p : Addr) :
    (s.pushWord w).read p =
      if p = stackCell s.sp then page w else if p = stackCell (s.sp - 1) then lowByte w else s.read p := by
  have hne := stackAddr_ne_stackAddr_sub_one s.sp
  rw [State.read_pushWord, stackCell_eq, stackCell_eq]
  by_cases h : p = stackAddr s.sp
  · rw [if_neg (h ▸ hne), if_pos h, if_pos h]
  · rw [if_neg h, if_neg h]

set_option maxRecDepth 100000 in
/-- Settles O27: JSR is `exec_jsrAbs`, its pushes are two writes (`State.pushWord_eq`), and where they miss the third
byte it reads as before (`State.read_pushWord_stackCell`); the encodings are read off the opcode map. -/
theorem jsrPushesItsLastByteAddress : Obligations.JsrPushesItsLastByteAddress := by
  refine ⟨by decide, fun w s => ?writes, fun w s hbyte hhi hlo => ⟨_, exec_jsrAbs w s, ?target⟩⟩
  case writes =>
    rw [exec_jsrAbs, State.pushWord_eq, stackAddr_eq, stackAddr_eq, sub_one_sub_one]
    rfl
  case target =>
    rw [State.read_pushWord_stackCell, if_neg hhi, if_neg hlo, hbyte]
    exact joinBytes_page_lowByte w

/-- Settles O28: the target's bytes are those `exec_jsrAbs` joins, its high byte as `State.read_pushWord_stackCell`
says. -/
theorem jsrThirdByteIsReadAfterThePushes : Obligations.JsrThirdByteIsReadAfterThePushes := fun w s =>
  ⟨_, exec_jsrAbs w s, lowByte_joinBytes _ _, (page_joinBytes _ _).trans (s.read_pushWord_stackCell _ _)⟩

/-! ## The branches -/

/-- What every branch does (R194). -/
theorem exec_of_branch {i : Instr} (h : i.mnemonic ∈ branches) (s : State) :
    exec i s = .next { s with
      pc := if branchCondition i.mnemonic s = true then effAddr i.operand s else s.pc + 2
      cycles := s.cycles + if branchCondition i.mnemonic s = true then
        3 + (if page (effAddr i.operand s) = page (s.pc + 2) then 0 else 1) else 2 } := by
  rw [exec_eq_perform, perform_eq_branchIf h, branchIf_eq _ (Instr.cycles_of_branch h)]

set_option maxRecDepth 100000 in
/-- Settles O30: PC and `cycles` of `exec_of_branch`, by the condition; the encodings are read off the opcode map. -/
theorem branchesTestOneFlag : Obligations.BranchesTestOneFlag := by
  refine ⟨⟨by decide, by decide, by decide, by decide, by decide, by decide, by decide, by decide⟩, fun i s h => ?_⟩
  intro next target
  rw [exec_of_branch h, ite_not, Nat.add_assoc]
  cases branchCondition i.mnemonic s <;> rfl

/-! ## PHA, PHP, PLA and PLP -/

/-- The default ending of a documented instruction of one byte. -/
theorem complete_docRow_imp (m : Mnemonic) (n : Nat) (s t : State) :
    complete (docRow m .imp n) .imp s t = .next { t with pc := s.pc + 1, cycles := s.cycles + n } := rfl

/-- The status image PHP and BRK push, as a number (R26). -/
theorem State.statusImage_true_eq_ofNat (s : State) :
    s.statusImage true = BitVec.ofNat 8 (s.flagN.toNat * 128 + s.flagV.toNat * 64 + 32 + 16 + s.flagD.toNat * 8 +
      s.flagI.toNat * 4 + s.flagZ.toNat * 2 + s.flagC.toNat) := by
  have h := s.toNat_statusImage true
  rw [show true.toNat * 16 = 16 from rfl] at h
  rw [← h, BitVec.ofNat_toNat, BitVec.setWidth_eq]

set_option maxRecDepth 100000 in
/-- Settles O31: each is the default ending on its push (`State.push_eq`) or pull; the byte PHP pushes is
`State.statusImage_true_eq_ofNat`; the encodings are read off the opcode map. -/
theorem pushesAndPullsMoveOneByte : Obligations.PushesAndPullsMoveOneByte := by
  refine ⟨⟨by decide, by decide, by decide, by decide⟩, fun s => ⟨?pha, ?php, ?pla, ?plp⟩⟩
  case pha => exact (complete_docRow_imp .PHA 3 s (s.push s.a)).trans (by rw [State.push_eq, stackAddr_eq])
  case php =>
    exact (complete_docRow_imp .PHP 3 s (s.push (s.statusImage true))).trans
      (by rw [State.push_eq, stackAddr_eq, State.statusImage_true_eq_ofNat])
  case pla =>
    exact (complete_docRow_imp .PLA 4 s (s.pop.loadA s.pulled)).trans
      (by rw [State.loadA_eq, State.pulled, stackAddr_eq]; rfl)
  case plp =>
    exact (complete_docRow_imp .PLP 4 s (s.pop.setStatus s.pulled)).trans
      (by rw [State.pulled, stackAddr_eq]; rfl)

/-! ## BRK and RTI -/

/-- No push reaches a cell outside page 1 (R23). -/
theorem State.read_enterTrap_of_page_ne {p : Addr} (h : page p ≠ 0x01) (s : State) (ret : Addr) (b : Bool)
    (vector : Addr) : (s.enterTrap ret b vector).read p = s.read p := by
  have hne (sp : Byte) : p ≠ stackAddr sp := fun e => h (e ▸ page_joinBytes 0x01 sp)
  rw [State.read_enterTrap, if_neg (hne _), if_neg (hne _), if_neg (hne _)]

/-- Trap entry continues at the word its vector held before the pushes, which do not reach the vector (R306). -/
theorem State.enterTrap_pc (s : State) (ret : Addr) (b : Bool) :
    (s.enterTrap ret b irqVector).pc =
      BitVec.ofNat 16 ((s.read 0xFFFF).toNat * 256 + (s.read 0xFFFE).toNat) := by
  rw [← joinBytes_eq_ofNat, ← s.read_enterTrap_of_page_ne (by decide) ret b irqVector,
    ← s.read_enterTrap_of_page_ne (by decide) ret b irqVector]
  rfl

/-- What BRK does: trap entry, in 7 cycles (R230). -/
theorem exec_brk (s : State) :
    exec .brk s = .next ((s.enterTrap (s.pc + 2) true irqVector).addCycles 7) := rfl

/-- What RTI does: trap return, in 6 cycles (R231). -/
theorem exec_rti (s : State) : exec .rti s = .next (s.leaveTrap.addCycles 6) := rfl

set_option maxRecDepth 100000 in
/-- Settles O33: trap entry is three writes (`State.enterTrap_eq`), and its vector is read as before them
(`State.enterTrap_pc`); the encodings are read off the opcode map. -/
theorem brkEntersTheTrap : Obligations.BrkEntersTheTrap := by
  refine ⟨by decide, fun s => ?_⟩
  intro ret image pushed
  rw [exec_brk, State.addCycles_eq (State.enterTrap_cycles s ret true irqVector), State.enterTrap_pc,
    State.enterTrap_eq, stackAddr_eq, stackAddr_eq, stackAddr_eq, State.statusImage_true_eq_ofNat,
    sub_one_sub_one_sub_one, sub_one_sub_one]

set_option maxRecDepth 100000 in
/-- Settles O34: trap return is three reads (`State.leaveTrap_eq`); the encodings are read off the opcode map. -/
theorem rtiRestoresFlagsAndPc : Obligations.RtiRestoresFlagsAndPc := by
  refine ⟨by decide, fun s => ?_⟩
  have hsp : s.sp + 1 + 1 + 1 = s.sp + 3 := by rw [add_one_add_one, BitVec.add_assoc]; rfl
  rw [exec_rti, State.leaveTrap_eq, hsp, add_one_add_one, joinBytes_eq_ofNat, ← stackCell_eq, ← stackCell_eq,
    ← stackCell_eq]
  rfl

/-- Trap return continues at the word above the image (R307). -/
theorem State.leaveTrap_pc (s : State) :
    s.leaveTrap.pc = joinBytes (s.read (stackAddr (s.sp + 1 + 1 + 1))) (s.read (stackAddr (s.sp + 1 + 1))) := rfl

/-- The stack pointer and memory of a trap entry are all that a trap return looks at: it pulls the image, continues
at the return address and restores the stack pointer (R306, R307). -/
theorem State.leaveTrap_of_enterTrap {s u : State} {ret : Addr} {b : Bool} {vector : Addr}
    (hsp : u.sp = (s.enterTrap ret b vector).sp) (hmem : u.mem = (s.enterTrap ret b vector).mem) :
    u.pulled = s.statusImage b ∧ u.leaveTrap.pc = ret ∧ u.leaveTrap.sp = s.sp := by
  have hread (p : Addr) : u.read p = (s.enterTrap ret b vector).read p := State.read_congr hmem p
  have h01 : stackAddr s.sp ≠ stackAddr (s.sp - 1) := stackAddr_ne_stackAddr_sub_one s.sp
  have h12 : stackAddr (s.sp - 1) ≠ stackAddr (s.sp - 1 - 1) := stackAddr_ne_stackAddr_sub_one (s.sp - 1)
  have h02 : stackAddr s.sp ≠ stackAddr (s.sp - 1 - 1) := stackAddr_inj.not.mpr (by bv_omega)
  rw [State.enterTrap_sp] at hsp
  refine ⟨?image, ?pc, ?sp⟩
  case image => rw [State.pulled, hread, hsp, BitVec.sub_add_cancel, State.read_enterTrap, if_pos rfl]
  case pc =>
    have hhi : u.read (stackAddr s.sp) = page ret := by
      rw [hread, State.read_enterTrap, if_neg h02, if_neg h01, if_pos rfl]
    have hlo : u.read (stackAddr (s.sp - 1)) = lowByte ret := by
      rw [hread, State.read_enterTrap, if_neg h12, if_pos rfl]
    rw [State.leaveTrap_pc, hsp, BitVec.sub_add_cancel, BitVec.sub_add_cancel, BitVec.sub_add_cancel, hhi, hlo,
      joinBytes_page_lowByte]
  case sp => rw [State.leaveTrap_sp, hsp, BitVec.sub_add_cancel, BitVec.sub_add_cancel, BitVec.sub_add_cancel]

/-- Settles O35: BRK leaves the stack of a trap entry, which a trap return undoes (`State.leaveTrap_of_enterTrap`);
the flags are the bits of the image. -/
theorem rtiUndoesBrk : Obligations.RtiUndoesBrk := by
  intro s t hbrk p a x y n v d i z c k
  rw [exec_brk, Host.Outcome.next.injEq] at hbrk
  refine ⟨_, exec_rti _, ?_⟩
  generalize hu : ({ t with pc := p, a := a, x := x, y := y, flagN := n, flagV := v, flagD := d, flagI := i, flagZ := z,
                            flagC := c, cycles := k } : State) = u
  have hsp : u.sp = (s.enterTrap (s.pc + 2) true irqVector).sp := by rw [← hu, ← hbrk]; rfl
  have hmem : u.mem = (s.enterTrap (s.pc + 2) true irqVector).mem := by rw [← hu, ← hbrk]; rfl
  obtain ⟨himage, hpc, hsp⟩ := State.leaveTrap_of_enterTrap hsp hmem
  refine ⟨hpc, hsp, ?_⟩
  simp [himage]

end Sys2Proof.Machine
end

section
/-! Proofs for the unstable stores: SHA, SHX, SHY and TAS, and the byte they latch (R280 to R289). -/

namespace Sys2Proof.Machine

open Sys2Proof.Safety

/-- The latched byte as a number (R281). -/
theorem latchedByte_eq_ofNat (op : Operand) (s : State) :
    latchedByte op s = BitVec.ofNat 8 (if pageCrossed op s = true then (effAddr op s).toNat / 256
      else ((effAddr op s).toNat / 256 + 1) % 256) := by
  apply BitVec.eq_of_toNat_eq
  rw [latchedByte]
  split
  · rw [toNat_page, BitVec.toNat_ofNat]
    omega
  · rw [add_one_eq, toNat_page, BitVec.toNat_ofNat, BitVec.toNat_ofNat]
    omega

set_option maxRecDepth 100000 in
/-- Settles O45: each is one store with the default ending, and its mask is the latched byte
(`latchedByte_eq_ofNat`); the encodings are read off the opcode map. -/
theorem unstableStoresAndTheLatchedByte : Obligations.UnstableStoresAndTheLatchedByte := by
  refine ⟨⟨by decide, by decide, by decide, by decide⟩, fun i s => ?_⟩
  intro ea latched mask
  have hmask : mask = latchedByte i.operand s := (latchedByte_eq_ofNat i.operand s).symm
  rw [hmask]
  refine ⟨fun h => ?sha, fun h => ?shx, fun h => ?shy, fun h => ?tas⟩
  all_goals exact (exec_of_mnemonic h s).trans (complete_eq_defaultEnding i s _)

/-- An index that moves a word to another page moves it to the next one, modulo 256 (R113). -/
theorem page_indexed_of_ne {w : Addr} {index : Byte} (h : page w ≠ page (indexed w index)) :
    page (indexed w index) = page w + 1 := by
  have hw := w.isLt
  have hindex := index.isLt
  rw [page_ne_page_indexed_iff] at h
  apply BitVec.eq_of_toNat_eq
  rw [toNat_page, toNat_indexed, BitVec.toNat_add, toNat_page, show (1 : Byte).toNat = 1 from rfl]
  omega

/-- The byte latched for an indexed word, crossed or not: the page after the word's own (R281, R289). -/
theorem latched_of_indexed (w : Addr) (index : Byte) :
    (if decide (page w ≠ page (indexed w index)) = true then page (indexed w index) else page (indexed w index) + 1) =
      page w + 1 := by
  by_cases h : page w = page (indexed w index)
  · rw [if_neg (by simp [h]), ← h]
  · rw [if_pos (decide_eq_true h), page_indexed_of_ne h]

/-- What SHX leaves at its `ea` (R285). -/
theorem exec_shxAby_leaves {w : Addr} {s t : State} (h : exec (.shxAby w) s = .next t) :
    t.read (effAddr (.aby w) s) = s.x &&& latchedByte (.aby w) s := by
  cases h
  exact State.read_write_self s _ _

/-- Settles O46: the latched byte of an indexed word is `latched_of_indexed`; two SHX with one target latch its page
and the page after (`exec_shxAby_leaves`), which differ, and `X = 0` masks both away. -/
theorem latchedByteIsBasePagePlusOne : Obligations.LatchedByteIsBasePagePlusOne := by
  refine ⟨fun w s => ⟨latched_of_indexed w s.x, latched_of_indexed w s.y⟩,
    fun d s => latched_of_indexed (zeroPagePointer d s) s.y, fun w w' s s' t t' h h' hea hcrossed hcrossed' => ?_⟩
  have hread := exec_shxAby_leaves h
  have hread' := exec_shxAby_leaves h'
  rw [latchedByte, hcrossed, if_neg Bool.false_ne_true] at hread
  rw [latchedByte, hcrossed', if_pos rfl, ← hea] at hread'
  rw [hread, hread']
  refine ⟨fun hx hx' => ?ones, fun hx hx' => ?zero⟩
  case ones =>
    have hand (v : Byte) : 0xFF &&& v = v := BitVec.allOnes_and
    rw [hx, hx', hand, hand]
    exact fun e => absurd (add_eq_left.mp e) (by decide)
  case zero =>
    rw [hx, hx']
    exact ⟨BitVec.zero_and, BitVec.zero_and⟩

end Sys2Proof.Machine
end

section
/-! Proofs for the host family: creation and reset (R330 to R332), seed and inspect (R340, R341), registers by name
(R342). -/

namespace Sys2Proof.Machine

open Sys2Proof.Safety

/-! ## Creation and reset -/

@[simp] theorem State.creation_mem (regs : RegInit) (memInit : MemInit) (variant : Variant) :
    (State.creation regs memInit variant).mem = Memory.ofInit memInit := rfl

/-- A cell at creation holds its MEM_INIT (R331). -/
theorem State.read_creation (regs : RegInit) (memInit : MemInit) (variant : Variant) (p : Addr) :
    (State.creation regs memInit variant).read p = memInit p := by
  have hp : 0 ≤ p.toNat ∧ p.toNat < 0 + memorySize := ⟨Nat.zero_le _, (Nat.zero_add memorySize).symm ▸ p.isLt⟩
  rw [State.read, State.creation_mem, Memory.ofInit, Memory.read_fill, if_pos hp, BitVec.ofNat_toNat,
    BitVec.setWidth_eq]

/-- Memory at creation is in canonical form. -/
theorem State.creation_wf (regs : RegInit) (memInit : MemInit) (variant : Variant) :
    MemoryCanonical (State.creation regs memInit variant) := by
  rw [MemoryCanonical, State.creation_mem, Memory.ofInit, Memory.wf]
  exact Memory.fill_wfFrom _ memorySize 0 (Nat.zero_add memorySize).le

/-- The reset operation on numbers (R332). -/
theorem State.hostReset_eq (s : State) :
    s.hostReset = { s with
      sp := BitVec.ofNat 8 (s.sp.toNat + 253)
      flagI := true
      pc := BitVec.ofNat 16 ((s.read 0xFFFD).toNat * 256 + (s.read 0xFFFC).toNat)
      cycles := 0 } := by
  have hsp : s.sp - 3 = BitVec.ofNat 8 (s.sp.toNat + 253) := by bv_omega
  rw [State.hostReset, hsp, ← joinBytes_eq_ofNat]
  rfl

/-- `State.reset` is the reset operation on the creation with zero registers and zero cells (R332). -/
theorem State.reset_eq_hostReset_creation :
    State.reset = (State.creation ⟨0, 0, 0, 0, false, false, false, false, false, false, 0, 0⟩ (fun _ => 0x00)
      { decimalEnabled := true, undocMode := .full }).hostReset := by
  have hmem : Memory.ofInit (fun _ => 0x00) = [] := Memory.fill_unlisted memorySize 0
  rw [State.creation, hmem]
  rfl

/-- Settles O57: the cells at creation are `State.read_creation`, the canonical form `State.creation_wf`; the reset
operation is `State.hostReset_eq`, and `State.reset` one of its results. -/
theorem resetOperation : Obligations.ResetOperation :=
  ⟨fun regs memInit variant => ⟨State.read_creation regs memInit variant, State.creation_wf regs memInit variant,
    rfl, rfl, rfl, rfl, rfl, rfl, rfl, rfl, rfl, rfl, rfl, rfl, rfl, rfl⟩,
   State.hostReset_eq, State.reset_eq_hostReset_creation, rfl, rfl⟩

/-! ## Seed and inspect -/

/-- The next address, and `k` beyond it. -/
theorem add_ofNat_succ (a : Addr) (k : Nat) : a + BitVec.ofNat 16 (k + 1) = a + 1 + BitVec.ofNat 16 k := by
  rw [Nat.add_comm, BitVec.ofNat_add, ← BitVec.add_assoc]
  rfl

/-- A cell a block write does not reach reads as before (R340). -/
theorem State.read_writeBytes_other (p : Addr) (bytes : List Byte) :
    ∀ (s : State) (a : Addr), (∀ k, k < bytes.length → p ≠ a + BitVec.ofNat 16 k) →
      (s.writeBytes a bytes).read p = s.read p := by
  induction bytes with
  | nil => exact fun _ _ _ => rfl
  | cons b rest ih =>
    intro s a h
    have hfirst : p ≠ a := by simpa using h 0 (Nat.succ_pos _)
    have hrest (k : Nat) (hk : k < rest.length) : p ≠ a + 1 + BitVec.ofNat 16 k :=
      add_ofNat_succ a k ▸ h (k + 1) (Nat.succ_lt_succ hk)
    exact (ih (s.write a b) (a + 1) hrest).trans (State.read_write_other s b hfirst)

/-- At most 65536 bytes do not come back on themselves: reading them back gives them (R340, R341). -/
theorem State.readBytes_writeBytes (bytes : List Byte) :
    ∀ (s : State) (a : Addr), bytes.length ≤ 65536 → (s.writeBytes a bytes).readBytes a bytes.length = bytes := by
  induction bytes with
  | nil => exact fun _ _ _ => rfl
  | cons b rest ih =>
    intro s a h
    rw [List.length_cons] at h
    have hfirst (k : Nat) (hk : k < rest.length) : a ≠ a + 1 + BitVec.ofNat 16 k := by bv_omega
    have hread : ((s.write a b).writeBytes (a + 1) rest).read a = b := by
      rw [State.read_writeBytes_other a rest _ _ hfirst, State.read_write_self]
    exact congrArg₂ List.cons hread (ih (s.write a b) (a + 1) (by omega))

/-- Byte `k` of an inspection stands `k` addresses on (R341). -/
theorem State.getElem?_readBytes (s : State) (n : Nat) :
    ∀ (a : Addr) (k : Nat), k < n → (s.readBytes a n)[k]? = some (s.read (a + BitVec.ofNat 16 k)) := by
  induction n with
  | zero => exact fun _ _ h => absurd h (Nat.not_lt_zero _)
  | succ n ih =>
    intro a k hk
    cases k with
    | zero => simp [State.readBytes]
    | succ k => rw [add_ofNat_succ, ← ih (a + 1) k (Nat.lt_of_succ_lt_succ hk)]; rfl

/-- Settles O58: a block write stores its bytes and no others (`State.readBytes_writeBytes`,
`State.read_writeBytes_other`), and nothing but memory (`State.writeBytes_eq`); an inspection reads rising addresses
(`State.getElem?_readBytes`). -/
theorem seedThenInspect : Obligations.SeedThenInspect := by
  refine ⟨fun s base bytes h => ⟨State.readBytes_writeBytes bytes s base h,
    fun p hp => State.read_writeBytes_other p bytes s base hp⟩,
    fun s base bytes => ⟨_, State.writeBytes_eq bytes s base⟩, fun s base n k hk => ?inspect⟩
  case inspect =>
    have haddr : base + BitVec.ofNat 16 k = BitVec.ofNat 16 ((base.toNat + k) % 65536) := by bv_omega
    rw [← haddr]
    exact s.getElem?_readBytes n base k hk

/-! ## Registers by name -/

/-- The status the host sets, bit by bit (R342). -/
theorem State.setStatus_ofNat (s : State) (v : Nat) :
    s.setStatus (BitVec.ofNat 8 v) = { s with
      flagN := v.testBit 7, flagV := v.testBit 6, flagD := v.testBit 3
      flagI := v.testBit 2, flagZ := v.testBit 1, flagC := v.testBit 0 } := by
  simp only [State.setStatus, BitVec.getLsbD_ofNat]
  rfl

/-- The status the host reads back: bit 5 set, bit 4 clear (R26, R342). -/
theorem State.toNat_statusImage_setStatus (s : State) (v : Byte) :
    ((s.setStatus v).statusImage false).toNat = (v.toNat &&& 0xCF) + 32 := by
  rw [State.statusImage_setStatus]
  obtain ⟨k⟩ := v
  revert k
  decide +kernel

/-- Settles O59: each register is set alone, by definition for all but the status (`State.setStatus_ofNat`); read
back, a value is its remainder, the status `State.toNat_statusImage_setStatus`. -/
theorem hostRegisterAccess : Obligations.HostRegisterAccess := by
  intro s v
  refine ⟨rfl, rfl, rfl, rfl, rfl, congrArg some (s.setStatus_ofNat v), rfl, fun r hr t ht => ?byte, fun t ht => ?pc,
    fun t ht => ?status, rfl, rfl, rfl, rfl, rfl, rfl, rfl⟩
  case byte =>
    cases r with
    | A | X | Y | S =>
      cases ht
      exact BitVec.toNat_ofNat v 8
    | status | PC | lastPC => exact absurd hr (by decide)
  case pc =>
    cases ht
    exact BitVec.toNat_ofNat v 16
  case status =>
    cases ht
    exact (s.toNat_statusImage_setStatus (BitVec.ofNat 8 v)).trans (by rw [BitVec.toNat_ofNat])

end Sys2Proof.Machine
end
